-- ==== Sys2Proof/Word.lean ====
section
/-! DEFINITION. The word types of the Z242: the bytes of cells, 16-bit table words and condition vectors, 32-bit data
words and time base readings, and the three components of a pixel. -/

namespace Sys2Proof

/-- One byte of a cell. -/
abbrev Byte := BitVec 8

/-- A 16-bit quantity: a table word, a CRC, a condition vector, a checksum. -/
abbrev Half := BitVec 16

/-- A 32-bit data word of a response (chapter 11). -/
abbrev Word := BitVec 32

/-- A reading of the time base (R28). -/
abbrev Time := BitVec 32

/-- The red, green and blue components of one pixel. Every quantity of the pipeline is an integer (00_scope,
Conventions), so the components are numbers and not bit vectors. -/
structure Rgb where
  r : Nat
  g : Nat
  b : Nat
  deriving DecidableEq, Repr, Inhabited

/-- The pixel whose three components are 0. -/
def Rgb.black : Rgb := ⟨0, 0, 0⟩

end Sys2Proof
end

