-- ==== Sys2Proof/Syntax.lean ====
section
/-! DEFINITION. The commands of the Z242: one constructor of Instr for each row of spec/opcode_table.json. -/

namespace Sys2Proof

/-- The two sides of the part (00_scope, Sides). Display link A belongs to side A and display link B to side B, so the
same two names stand for the display links. -/
inductive Side where
  | a
  | b
  deriving DecidableEq, Repr, Inhabited

/-- The two banks of a side (R44). -/
inductive BankId where
  | bank0
  | bank1
  deriving DecidableEq, Repr, Inhabited

/-- A command. A cell is given by its bytes after the kind byte, the two CRC bytes included; the constructor names the
kind, or an operand does where the kind is unknown. A request is taken from the head of the request queue of the link
named, so its fields stand in that queue. -/
inductive Instr where
  /-- CAMERA_FRAME_START (R4). -/
  | cameraFrameStart (side : Side) (body : List Byte)
  /-- CAMERA_LINE (R9). -/
  | cameraLine (side : Side) (body : List Byte)
  /-- CAMERA_FRAME_END (R17). -/
  | cameraFrameEnd (side : Side) (body : List Byte)
  /-- CAMERA_STATUS (R23). -/
  | cameraStatus (side : Side) (body : List Byte)
  /-- CAMERA_UNKNOWN_KIND_CELL (R1). -/
  | cameraUnknownKindCell (side : Side) (kind : Byte) (body : List Byte)
  /-- FRAME_TIMEOUT_EXPIRY (R35). -/
  | frameTimeoutExpiry (side : Side)
  /-- STANDALONE_PERIOD_EXPIRY (R37). -/
  | standalonePeriodExpiry (side : Side)
  /-- STANDALONE_FRAME_START (R37). -/
  | standaloneFrameStart (side : Side)
  /-- DISPLAY_TIMEOUT_EXPIRY (R39). -/
  | displayTimeoutExpiry (link : Side)
  /-- WARN_PULSE_EXPIRY (R40). -/
  | warnPulseExpiry
  /-- COPY_COMPLETION (R57). -/
  | copyCompletion (side : Side)
  /-- CHECK_COMPLETION (R60). -/
  | checkCompletion (side : Side)
  /-- FRAME_END_UPDATE_COMPLETION (R95). -/
  | frameEndUpdateCompletion (side : Side)
  /-- COMMAND_LANE_TX_COMPLETION (R118). -/
  | commandLaneTxCompletion (side : Side)
  /-- EGRESS_LINE_COMPLETION (R176). -/
  | egressLineCompletion (link : Side)
  /-- EGRESS_FRAME_END_COMPLETION (R175). -/
  | egressFrameEndCompletion (link : Side)
  /-- EGRESS_FRAME_START_COMPLETION (R173). -/
  | egressFrameStartCompletion (link : Side)
  /-- INSERTED_CELL_COMPLETION (R176). -/
  | insertedCellCompletion (link : Side)
  /-- DEFERRED_LINE_DELIVERY (R174). -/
  | deferredLineDelivery (side : Side)
  /-- DISPLAY_STATUS (R180). -/
  | displayStatus (link : Side) (body : List Byte)
  /-- REQUEST (R182). -/
  | request (link : Side) (body : List Byte)
  /-- DISPLAY_UNKNOWN_KIND_CELL (R179). -/
  | displayUnknownKindCell (link : Side) (kind : Byte) (body : List Byte)
  /-- READ (R188). -/
  | read (link : Side)
  /-- WRITE_SETTINGS (R191). -/
  | writeSettings (link : Side)
  /-- TABLE_WRITE (R53). -/
  | tableWrite (link : Side)
  /-- TABLE_READ (R54). -/
  | tableRead (link : Side)
  /-- COPY_BANK (R55). -/
  | copyBank (link : Side)
  /-- COMMIT_BANK (R58). -/
  | commitBank (link : Side)
  /-- ACKNOWLEDGE (R141). -/
  | acknowledge (link : Side)
  /-- VIEW_RESTORE (R161). -/
  | viewRestore (link : Side)
  /-- FORCE_WARNING (R131). -/
  | forceWarning (link : Side)
  /-- WARN_STOP (R146). -/
  | warnStop (link : Side)
  /-- CAMERA_PASS (R125). -/
  | cameraPass (link : Side)
  /-- SIDE_RESTART (R196). -/
  | sideRestart (link : Side)
  /-- PART_RESET (R199). -/
  | partReset (link : Side)
  /-- UNKNOWN_REQUEST (R183). -/
  | unknownRequest (link : Side)
  /-- RESET_LOW (R200). -/
  | resetLow
  /-- RESET_RELEASED (R201). -/
  | resetReleased
  /-- PARITY_FAILURE (R48): the word struck, and the value the memory then holds. -/
  | parityFailure (side : Side) (bank : BankId) (word : Fin 706) (value : Half)
  /-- COPY_WORD (R56). -/
  | copyWord (side : Side)
  /-- CHECK_WORD (R59). -/
  | checkWord (side : Side)
  deriving DecidableEq, Repr

end Sys2Proof
end

