-- ==== Sys2Proof/Config.lean ====
section
/-! DEFINITION. What the Z242 fixes once: sizes of its memory, grids and queues, and its part code. The spec leaves no
result of a command undefined, so there is no opaque free value here. -/

namespace Sys2Proof.Config

/-- Words of a bank (R44). -/
def bankWords : Nat := 706

/-- Words of DEVELOP, SHADE and TONE, which lie first in a bank and are taken together (R49). -/
def frameWords : Nat := 491

/-- Words that one scrub batch checks (R52). -/
def scrubBatch : Nat := 128

/-- Tiles of a frame: 16 columns by 12 rows (00_scope, Conventions). -/
def tiles : Nat := 192

/-- Cells a request queue holds (R182). -/
def requestSlots : Nat := 4

/-- Slots of a response queue (R183). -/
def responseSlots : Nat := 8

/-- Cells a pass-through queue holds (R126). -/
def passSlots : Nat := 4

/-- Lines an egress line buffer holds (R174). -/
def bufferLines : Nat := 4

/-- Inserted cells of one frame-end run (R176). -/
def runCells : Nat := 8

/-- Part code of PART STATUS (R189). -/
def partCode : Nat := 0x5A42

/-- Revision of PART STATUS (R189). -/
def revision : Nat := 1

end Sys2Proof.Config
end

