-- ==== Sys2Proof/Machine/State.lean ====
section
/-! DEFINITION. The state of the Z242 as plain data, field by field as INVENTORY.md lists it, and the state after
reset. -/

namespace Sys2Proof.Machine

open Sys2Proof

/-! ## Camera Receiver (chapter 01) -/

/-- The receiver states. -/
inductive RecvState where
  | waitStart
  | receiving
  | discarding
  deriving DecidableEq, Repr, Inhabited

/-- The four kinds of the camera link's forward lane (R1). -/
inductive CameraKind where
  | frameStart
  | line
  | frameEnd
  | status
  deriving DecidableEq, Repr, Inhabited

/-- A camera cell that the link layer holds (R174): its kind and the bytes after the kind byte. -/
structure CameraCell where
  kind : CameraKind
  body : List Byte
  deriving DecidableEq, Repr, Inhabited

/-- What the receiver of a side keeps (chapter 01, Receiver states). held are the cells that the link layer
holds while a line of the side waits (R174); the cell in handling stands with the waiting line. -/
structure Receiver where
  state : RecvState
  expected : Nat
  frameNumber : Byte
  damaged : Nat
  missing : Nat
  discarded : Nat
  signature : Half
  prevSignature : Option Half
  prevFrame : Option Byte
  freeze : Nat
  lastGood : List Rgb
  held : List CameraCell
  deriving DecidableEq, Repr, Inhabited

/-- The camera status record (R22). The temperature is a signed number in two's complement (R206). -/
structure CameraStatus where
  tag : BitVec 4
  exposure : BitVec 9
  temperature : Half
  faults : Byte
  frameNumber : Byte
  damagedOnStore : Bool
  valid : Bool
  deriving DecidableEq, Repr, Inhabited

/-- The emptied camera status record (R22). -/
def CameraStatus.empty : CameraStatus := ⟨0, 0, 0, 0, 0, false, false⟩

/-! ## Time Base Unit (chapter 02) -/

/-- The timing record of a side. -/
structure Timing where
  last : Time
  reference : Option Time
  divider : Nat
  interval : Option Nat
  unread : Bool
  overrun : Bool
  deriving DecidableEq, Repr, Inhabited

/-- The emptied timing record (R42). -/
def Timing.empty : Timing := ⟨0, none, 0, none, false, false⟩

/-! ## Table Store (chapter 03) -/

/-- A stored word: its value and whether it has lost agreement with its parity bit (R48). -/
structure TableWord where
  value : Half
  failed : Bool
  deriving DecidableEq, Repr, Inhabited

/-- What a word that is not listed reads as: 0 with good parity (R44). -/
def TableWord.zero : TableWord := ⟨0, false⟩

/-- A bank: the words that differ from 0 with good parity, by rising word number. -/
abbrev Bank := List (Nat × TableWord)

/-- What an operation in flight does; a check carries its expected checksum (R58). -/
inductive OpKind where
  | copy
  | check (expected : Half)
  deriving DecidableEq, Repr, Inhabited

/-- The COPY BANK or COMMIT BANK check running for a side (R45, R56, R59). invalid holds the table id and the index
of the first invalid word. -/
structure Operation where
  kind : OpKind
  link : Side
  progress : Nat
  failure : Bool
  sum : Half
  invalid : Option (Nat × Nat)
  deriving DecidableEq, Repr, Inhabited

/-- The first failure of a parity record: bank, table id, index within the table (R50). -/
structure ParityPlace where
  bank : BankId
  table : Nat
  index : Nat
  deriving DecidableEq, Repr, Inhabited

/-- The parity record (R50, R51). -/
structure ParityRecord where
  first : Option ParityPlace
  count : Nat
  deriving DecidableEq, Repr, Inhabited

/-- The emptied parity record (R44). -/
def ParityRecord.empty : ParityRecord := ⟨none, 0⟩

/-- The banks and the bank state of a side (R45). The shadow bank is computed from the active bank. -/
structure Store where
  bank0 : Bank
  bank1 : Bank
  active : Option BankId
  commitPending : Bool
  op : Option Operation
  frameSize : Option (Nat × Nat)
  scrub : Nat
  parity : ParityRecord
  deriving DecidableEq, Repr, Inhabited

/-! ## Development Pipeline (chapter 04) -/

/-- A developed line: its line number and its pixels in output order. -/
structure OutLine where
  number : Nat
  pixels : List Rgb
  deriving DecidableEq, Repr, Inhabited

/-- The values of a pipeline that stages 4 to 7 read besides the frame values: the map, the knee and the fade factor. -/
structure Shaping where
  map : List Nat
  knee : Nat
  fade : Nat
  deriving DecidableEq, Repr, Inhabited

/-- The lines next to stop-1 of a frame that a SIDE RESTART has abandoned, still to be developed, and the values they
are developed with, which are those in use before the restart (R88; log 6). -/
structure Remainder where
  values : List Nat
  shaping : Shaping
  lastGood : List Rgb
  next : Nat
  stop : Nat
  deriving DecidableEq, Repr, Inhabited

/-- What goes on when a waiting line has been delivered (R1, R174): nothing, because it was the last line of its cell;
the handling of a cell or the expiry of the frame timeout, whose next line is given (R21, R215); or the lines that a
SIDE RESTART has left of the frame it abandoned (R88). -/
inductive After where
  | handled
  | cell (next : Nat) (c : CameraCell)
  | expiry (next : Nat)
  | abandoned (r : Remainder)
  deriving DecidableEq, Repr, Inhabited

/-- The developed line that waits for room in the egress line buffer, and what follows its delivery (R174). -/
structure Waiting where
  line : OutLine
  after : After
  deriving DecidableEq, Repr, Inhabited

/-- The state of the pipeline. values holds the 491 words of DEVELOP, SHADE and TONE in bank order; waiting holds the
one developed line that waits for room in the egress line buffer, behind which no further line is developed (R67,
R174). -/
structure Pipeline where
  values : Option (List Nat)
  map : List Nat
  knee : Nat
  nextReady : Bool
  fade : Nat
  waiting : Option Waiting
  deriving DecidableEq, Repr, Inhabited

/-- A map of 192 values of 0. -/
def zeroMap : List Nat := List.replicate Config.tiles 0

/-! ## Statistics Unit and Glare Unit (chapter 05) -/

/-- A tile record: luma sum and clip count (R89). -/
structure Tile where
  luma : Nat
  clips : Nat
  deriving DecidableEq, Repr, Inhabited

/-- 192 tile records of 0. -/
def zeroTiles : List Tile := List.replicate Config.tiles ⟨0, 0⟩

/-- The gathering buffer, EMPTY or GATHERING (R89). -/
structure Gathering where
  gathering : Bool
  tiles : List Tile
  deriving DecidableEq, Repr, Inhabited

/-- The EMPTY gathering buffer. -/
def Gathering.empty : Gathering := ⟨false, zeroTiles⟩

/-- The published buffer, EMPTY or FULL with the frame number and size of the frame it holds (R89). -/
structure Published where
  full : Bool
  frameNumber : Byte
  width : Nat
  height : Nat
  tiles : List Tile
  deriving DecidableEq, Repr, Inhabited

/-- The EMPTY published buffer. -/
def Published.empty : Published := ⟨false, 0, 0, 0, zeroTiles⟩

/-- The two statistics buffers of a side. -/
structure Stats where
  gathering : Gathering
  published : Published
  deriving DecidableEq, Repr, Inhabited

/-- The night states (R98). -/
inductive NightState where
  | day
  | night
  deriving DecidableEq, Repr, Inhabited

/-- The MaxAtten, Emin and Emax that a swap took (R63, R65). -/
structure SwapLimits where
  maxAtten : Nat
  emin : Nat
  emax : Nat
  deriving DecidableEq, Repr, Inhabited

/-- A frame-end update in flight: all it took at its start (R93, R112), whether its results are dropped (R65, R96), and
the limits of a swap that was taken meanwhile and did not clear the frame-dependent state (R65). -/
structure Update where
  glareWords : List Nat
  exposeWords : List Nat
  weights : List Nat
  zoneLimit : Nat
  pinnedFrames : Nat
  night : NightState
  counter : Nat
  current : List Nat
  index : Option Nat
  pinned : Nat
  dropped : Bool
  clamp : Option SwapLimits
  deriving DecidableEq, Repr, Inhabited

/-- The state of the Glare Unit. nextKnee is the knee that the next map carries (R103). -/
structure Glare where
  night : NightState
  counter : Nat
  target : List Nat
  current : List Nat
  next : List Nat
  nextKnee : Nat
  zoneCount : Nat
  update : Option Update
  deriving DecidableEq, Repr, Inhabited

/-! ## Exposure Unit and Command Lane Transmitter (chapter 06) -/

/-- The exposure slot (R117 to R122). -/
inductive Slot where
  | empty
  | waitingTx (tag : BitVec 4) (index : Nat)
  | sent (tag : BitVec 4) (index : Nat) (acks : Nat)
  deriving DecidableEq, Repr, Inhabited

/-- The command lane: IDLE, or SENDING a cell given by its bytes (R118). -/
inductive CommandLane where
  | idle
  | exposure (bytes : List Byte)
  | pass (bytes : List Byte)
  deriving DecidableEq, Repr, Inhabited

/-- The state of the Exposure Unit and its transmitter. -/
structure Exposure where
  index : Option Nat
  limits : Option (Nat × Nat)
  last : Option Nat
  tag : BitVec 4
  slot : Slot
  pinned : Nat
  passQueue : List (List Byte)
  lane : CommandLane
  deriving DecidableEq, Repr, Inhabited

/-! ## Supervision Unit (chapter 07) -/

/-- The sixteen conditions of a side, in the positions 0 to 15 of the condition vector (R130). -/
structure Conditions where
  linkLoss : Bool
  format : Bool
  lineMissing : Bool
  frozen : Bool
  lineCrc : Bool
  frameInterval : Bool
  statusCksum : Bool
  cameraFault : Bool
  cameraNoAck : Bool
  tempHigh : Bool
  exposurePinned : Bool
  glareWide : Bool
  displayFault : Bool
  tableParity : Bool
  noTables : Bool
  forced : Bool
  deriving DecidableEq, Repr, Inhabited

/-- Every condition false except LINK_LOSS and NO_TABLES (R149). -/
def Conditions.reset : Conditions :=
  ⟨true, false, false, false, false, false, false, false, false, false, false, false, false, false, true, false⟩

/-- A fault group: its three settings, its state and its event flag. -/
structure Group where
  mask : Half
  reference : Half
  level : Nat
  nonconforming : Bool
  flag : Bool
  deriving DecidableEq, Repr, Inhabited

/-- The four fault groups of a side. -/
structure Groups where
  g0 : Group
  g1 : Group
  g2 : Group
  g3 : Group
  deriving DecidableEq, Repr, Inhabited

/-- The groups of R149 (masks, references and levels as its table gives them; CONFORMING, flags clear). -/
def Groups.initial : Groups :=
  { g0 := ⟨0xE00F, 0, 3, false, false⟩
    g1 := ⟨0x13A0, 0, 2, false, false⟩
    g2 := ⟨0x0C50, 0, 1, false, false⟩
    g3 := ⟨0x0000, 0, 0, false, false⟩ }

/-- The groups as the start-up evaluation leaves them: G0 NONCONFORMING with its flag set (R150). -/
def Groups.reset : Groups :=
  { Groups.initial with g0 := ⟨0xE00F, 0, 3, true, true⟩ }

/-! ## View Guard (chapter 08) -/

/-- The guard states (R153). -/
inductive GuardState where
  | clear
  | fading
  | held
  | waiting
  | restoring
  deriving DecidableEq, Repr, Inhabited

/-- The four items of a view guard (R153). -/
structure Guard where
  state : GuardState
  m : Nat
  countdown : Nat
  ready : Bool
  deriving DecidableEq, Repr, Inhabited

/-- The egress sources (R165). -/
inductive Source where
  | follow
  | standalone
  deriving DecidableEq, Repr, Inhabited

/-! ## Settings (chapter 10) -/

/-- LineCrcPolicy (R12, R13). -/
inductive LinePolicy where
  | conceal
  | accept
  deriving DecidableEq, Repr, Inhabited

/-- StatusStore (R23, R24). -/
inductive StoreMode where
  | checked
  | always
  deriving DecidableEq, Repr, Inhabited

/-- RestoreMode (R159, R161). -/
inductive RestoreMode where
  | auto
  | manual
  deriving DecidableEq, Repr, Inhabited

/-- Settings 0 to 19 of a side (R192). The group settings stand in the groups, WarnPulseWidth in the part. -/
structure Settings where
  frameTimeout : Nat
  nominalInterval : Nat
  intervalTolerance : Nat
  captureDivider : Nat
  standalonePeriod : Nat
  crcMax : Nat
  missingMax : Nat
  lineCrcPolicy : LinePolicy
  freezeFrames : Nat
  ackFrames : Nat
  tempLimit : Int
  displayTimeout : Nat
  zoneLimit : Nat
  pinnedFrames : Nat
  cameraFaultMask : Byte
  displayFaultMask : Byte
  statusStore : StoreMode
  restoreMode : RestoreMode
  restoreFrames : Nat
  fadeStep : Nat
  deriving DecidableEq, Repr, Inhabited

/-- The reset values of R192. -/
def Settings.reset : Settings :=
  { frameTimeout := 100, nominalInterval := 33333, intervalTolerance := 2000, captureDivider := 4
    standalonePeriod := 33333, crcMax := 4, missingMax := 8, lineCrcPolicy := .conceal, freezeFrames := 8
    ackFrames := 4, tempLimit := 105, displayTimeout := 200, zoneLimit := 96, pinnedFrames := 30
    cameraFaultMask := 0xFF, displayFaultMask := 0xFF, statusStore := .checked, restoreMode := .auto
    restoreFrames := 30, fadeStep := 8 }

/-! ## A side -/

/-- Everything the part keeps per side. A timer is the time base reading it was started at, or none while it is
STOPPED (R29). -/
structure SideState where
  recv : Receiver
  status : CameraStatus
  timing : Timing
  frameTimer : Option Time
  periodTimer : Option Time
  standaloneDue : Bool
  store : Store
  pipe : Pipeline
  stats : Stats
  glare : Glare
  exposure : Exposure
  cond : Conditions
  groups : Groups
  guard : Guard
  source : Source
  settings : Settings
  deriving DecidableEq, Repr, Inhabited

/-- A side after reset: R26, R42, R44, R87, R106, R128, R149, R150, R170, R192. -/
def SideState.reset : SideState :=
  { recv :=
      { state := .waitStart, expected := 0, frameNumber := 0, damaged := 0, missing := 0, discarded := 0
        signature := 0, prevSignature := none, prevFrame := none, freeze := 0, lastGood := [], held := [] }
    status := .empty
    timing := .empty
    frameTimer := none
    periodTimer := none
    standaloneDue := true
    store :=
      { bank0 := [], bank1 := [], active := none, commitPending := false, op := none, frameSize := none
        scrub := 0, parity := .empty }
    pipe := { values := none, map := zeroMap, knee := 4095, nextReady := false, fade := 64, waiting := none }
    stats := { gathering := .empty, published := .empty }
    glare :=
      { night := .day, counter := 0, target := zeroMap, current := zeroMap, next := zeroMap, nextKnee := 4095
        zoneCount := 0, update := none }
    exposure :=
      { index := none, limits := none, last := none, tag := 0, slot := .empty, pinned := 0, passQueue := []
        lane := .idle }
    cond := .reset
    groups := .reset
    guard := { state := .held, m := 64, countdown := 0, ready := false }
    source := .standalone
    settings := .reset }

/-! ## A display link (chapter 09) -/

/-- The kinds of the display link's forward lane (R172). -/
inductive EgressKind where
  | frameStart
  | line
  | frameEnd
  | report
  | response
  deriving DecidableEq, Repr, Inhabited

/-- The forward lane: IDLE, or SENDING a cell of a kind, given by all its bytes (R172). -/
inductive Lane where
  | idle
  | sending (kind : EgressKind) (bytes : List Byte)
  deriving DecidableEq, Repr, Inhabited

/-- A built FRAME START that waits to be sent (R173). -/
structure FrameStartCell where
  number : Byte
  source : Source
  warning : Bool
  width : Nat
  height : Nat
  deriving DecidableEq, Repr, Inhabited

/-- An egress frame in progress: its source, its size, the colour of a standalone frame, the lines whose transmission
has begun, and whether its FRAME END has been handed (R172, R166, R175). -/
structure EgressFrame where
  source : Source
  width : Nat
  height : Nat
  colour : Rgb
  sent : Nat
  ended : Bool
  deriving DecidableEq, Repr, Inhabited

/-- The refusals; INVALID names the first invalid word (R60, R207). -/
inductive RefusalCode where
  | unknown
  | range
  | busy
  | noBank
  | parity
  | checksum
  | invalid (table index : Nat)
  | aborted
  | notReady
  deriving DecidableEq, Repr, Inhabited

/-- The contents of a response (R187, R207). -/
inductive Response where
  | data (words : List Word)
  | done
  | accepted
  | refused (code : RefusalCode)
  deriving DecidableEq, Repr, Inhabited

/-- A used slot of a response queue (R183). -/
inductive ResponseSlot where
  | reserved
  | ready (response : Response)
  deriving DecidableEq, Repr, Inhabited

/-- A queued request: the six header bytes and the payload of R209. -/
structure Request where
  kind : Byte
  side : Byte
  id : Byte
  index : Half
  count : Byte
  payload : List Byte
  deriving DecidableEq, Repr, Inhabited

/-- The display status record without its silent flag's timer (R180). -/
structure DisplayRecord where
  faults : Byte
  temperature : Half
  silent : Bool
  discarded : Nat
  deriving DecidableEq, Repr, Inhabited

/-- Everything the part keeps per display link. reportA and reportB are the link's report-pending flags (R147). -/
structure LinkState where
  lane : Lane
  number : Byte
  frames : List EgressFrame
  buffer : List OutLine
  waitingStarts : List FrameStartCell
  run : Option Nat
  requests : List Request
  responses : List ResponseSlot
  display : DisplayRecord
  displayTimer : Option Time
  reportA : Bool
  reportB : Bool
  deriving DecidableEq, Repr, Inhabited

/-- A display link after reset: R185, R39, R150. -/
def LinkState.reset : LinkState :=
  { lane := .idle, number := 0, frames := [], buffer := [], waitingStarts := [], run := none, requests := []
    responses := [], display := ⟨0, 0, false, 0⟩, displayTimer := some 0, reportA := true, reportB := true }

/-! ## The part -/

/-- The causes of a reset notice (R148). -/
inductive Cause where
  | power
  | request
  deriving DecidableEq, Repr, Inhabited

/-- The state of the part. pending is the queue of commands that wait, the first to be taken first. -/
structure State where
  timeBase : Time
  sideA : SideState
  sideB : SideState
  linkA : LinkState
  linkB : LinkState
  warn : Bool
  warnTimer : Option Time
  warnPulseWidth : Nat
  fault : Bool
  notice : Option Cause
  resetHeld : Bool
  pending : List Instr
  deriving DecidableEq, Repr

/-- The state right after reset: RESET has been released, the time base is at 0 and nothing has happened yet (R201).
The groups, FAULT, restore-ready and the report-pending flags are as the start-up evaluation leaves them (R150). -/
def State.reset : State :=
  { timeBase := 0, sideA := .reset, sideB := .reset, linkA := .reset, linkB := .reset, warn := false
    warnTimer := none, warnPulseWidth := 1000, fault := true, notice := some .power, resetHeld := false
    pending := [] }

/-- What stops the part with a fault: nothing. The spec gives every command an effect or says that it changes nothing
(INVENTORY.md, Faults), so no constructor is needed; every run goes on. -/
inductive Fault
  deriving DecidableEq, Repr

/-- Why a command has no meaning. -/
inductive Refusal where
  /-- Raised by an arm of exec that has no meaning yet; no arm of this model raises it. Safe: the run stops. -/
  | notModelled (mnemonic : String)
  deriving DecidableEq, Repr

end Sys2Proof.Machine
end

