-- ==== Sys2Proof/Machine/Operands.lean ====
section
/-! DEFINITION. The fields of cells: the CRC, what makes a received cell damaged, the fields of received cells and
requests, the bytes of the cells the part sends, and the packing of fields into data words (chapter 11). -/

namespace Sys2Proof.Machine

open Sys2Proof

/-! ## Bytes and fields -/

/-- Two bytes as a 16-bit field, most significant byte first (chapter 11). -/
def half (hi lo : Byte) : Half := hi ++ lo

/-- The two bytes of a 16-bit field, most significant byte first. -/
def halfBytes (h : Half) : List Byte := [h.extractLsb' 8 8, h.extractLsb' 0 8]

/-- The two bytes of a number sent as a 16-bit field. -/
def natBytes (n : Nat) : List Byte := halfBytes (BitVec.ofNat 16 n)

/-- The four bytes of a data word, most significant byte first. -/
def wordBytes (w : Word) : List Byte :=
  [w.extractLsb' 24 8, w.extractLsb' 16 8, w.extractLsb' 8 8, w.extractLsb' 0 8]

/-- Byte i of a cell whose bytes after the kind byte are body; byte 0 is the kind byte (R205). -/
def cellByte (body : List Byte) (i : Nat) : Byte := body.getD (i - 1) 0

/-- Bytes i and i + 1 of a cell as a 16-bit field. -/
def cellHalf (body : List Byte) (i : Nat) : Half := half (cellByte body i) (cellByte body (i + 1))

/-- The number whose bits are the flags, flag 0 the least significant. -/
def flagNat : List Bool → Nat
  | [] => 0
  | b :: bs => b.toNat + 2 * flagNat bs

/-- One byte of flags, flag 0 in bit 0. -/
def flagByte (bs : List Bool) : Byte := BitVec.ofNat 8 (flagNat bs)

/-! ## CRC (R203) -/

/-- One bit into the CRC register, polynomial x^16 + x^12 + x^5 + 1. -/
def crcBit (reg : Half) (bit : Bool) : Half :=
  if reg.msb != bit then (reg <<< 1) ^^^ 0x1021#16 else reg <<< 1

/-- One byte into the CRC register, from its most significant bit down. -/
def crcByte (reg : Half) (b : Byte) : Half :=
  [7, 6, 5, 4, 3, 2, 1, 0].foldl (fun r i => crcBit r (b.getLsbD i)) reg

/-- The CRC of a string of bytes: register preset to 0xFFFF, no reflection, no final inversion. -/
def crc16 (bytes : List Byte) : Half := bytes.foldl crcByte 0xFFFF#16

/-- A cell to be sent: its bytes closed by the CRC, high byte first. -/
def closeCell (bytes : List Byte) : List Byte := bytes ++ halfBytes (crc16 bytes)

/-- The bytes of a received cell between the kind byte and the CRC. -/
def cellFields (body : List Byte) : List Byte := body.take (body.length - 2)

/-- The CRC field of a received cell, as received. -/
def cellCrc (body : List Byte) : Half :=
  half (body.getD (body.length - 2) 0) (body.getD (body.length - 1) 0)

/-- The CRC of a received cell checks. A cell too short to hold a CRC does not check (log 5). -/
def crcChecks (kind : Byte) (body : List Byte) : Bool :=
  decide (2 ≤ body.length) && crc16 (kind :: cellFields body) == cellCrc body

/-- A cell of a kind with a fixed length (in bytes, kind byte included) is neither damaged nor malformed (R1, R179). -/
def cellGood (kind : Byte) (length : Nat) (body : List Byte) : Bool :=
  crcChecks kind body && decide (body.length + 1 = length)

/-! ## Camera link (R204 to R206) -/

/-- The kind byte of a camera cell (R203). -/
def CameraKind.byte : CameraKind → Byte
  | .frameStart => 0x01
  | .line => 0x02
  | .frameEnd => 0x03
  | .status => 0x04

/-- The frame number of a camera FRAME START. -/
def fsNumber (body : List Byte) : Byte := cellByte body 1

/-- The declared width of a camera FRAME START. -/
def fsWidth (body : List Byte) : Nat := (cellHalf body 2).toNat

/-- The declared height of a camera FRAME START. -/
def fsHeight (body : List Byte) : Nat := (cellHalf body 4).toNat

/-- The line number of a camera LINE, a 16-bit number (R206). -/
def lineNumber (body : List Byte) : Nat := (cellHalf body 1).toNat

/-- A camera LINE has the length of a payload of w pixels: 5 + 4.5 w bytes in all (R203). -/
def lineLengthOk (w : Nat) (body : List Byte) : Bool := decide (body.length = 4 + 9 * w / 2)

/-- Two pixels from each 9 bytes (R204). -/
def unpackPixels : List Byte → List Rgb
  | b0 :: b1 :: b2 :: b3 :: b4 :: b5 :: b6 :: b7 :: b8 :: rest =>
    ⟨b0.toNat * 16 + b1.toNat / 16, b1.toNat % 16 * 256 + b2.toNat, b3.toNat * 16 + b4.toNat / 16⟩ ::
    ⟨b4.toNat % 16 * 256 + b5.toNat, b6.toNat * 16 + b7.toNat / 16, b7.toNat % 16 * 256 + b8.toNat⟩ ::
    unpackPixels rest
  | _ => []

/-- The pixels of a camera LINE, in sensor order. -/
def linePixels (body : List Byte) : List Rgb := unpackPixels ((cellFields body).drop 2)

/-- The fields of a CAMERA STATUS cell as a record (R205, R206). -/
def statusFields (body : List Byte) (damaged : Bool) : CameraStatus :=
  { tag := (cellByte body 1).extractLsb' 0 4
    exposure := (cellHalf body 2).extractLsb' 0 9
    temperature := cellHalf body 4
    faults := cellByte body 6
    frameNumber := cellByte body 7
    damagedOnStore := damaged
    valid := true }

/-- An EXPOSURE cell (R205). -/
def exposureCell (tag : BitVec 4) (index : Nat) : List Byte :=
  closeCell (0x11 :: BitVec.ofNat 8 tag.toNat :: natBytes index)

/-- A PASS cell (R205). -/
def passCell (payload : List Byte) : List Byte := closeCell (0x12 :: payload)

/-! ## Display link, forward lane (R207, R208) -/

/-- The code of a source in a FRAME START. -/
def Source.bit : Source → Bool
  | .follow => false
  | .standalone => true

/-- A display FRAME START cell. -/
def FrameStartCell.bytes (c : FrameStartCell) : List Byte :=
  closeCell ([0x21, c.number, flagByte [c.source.bit, c.warning]] ++ natBytes c.width ++ natBytes c.height)

/-- The three bytes of a pixel on the display link. -/
def pixelBytes (p : Rgb) : List Byte := [BitVec.ofNat 8 p.r, BitVec.ofNat 8 p.g, BitVec.ofNat 8 p.b]

/-- A display LINE cell. -/
def OutLine.bytes (l : OutLine) : List Byte :=
  closeCell (0x22 :: natBytes l.number ++ l.pixels.flatMap pixelBytes)

/-- A display FRAME END cell. -/
def frameEndCell : List Byte := closeCell [0x23]

/-- The code of a refusal (R207). -/
def RefusalCode.byte : RefusalCode → Byte
  | .unknown => 1
  | .range => 2
  | .busy => 3
  | .noBank => 4
  | .parity => 5
  | .checksum => 6
  | .invalid _ _ => 7
  | .aborted => 8
  | .notReady => 9

/-- The kind, the refusal code and the data words of a response (R207). -/
def Response.fields : Response → Byte × Byte × List Word
  | .data words => (1, 0, words)
  | .done => (2, 0, [])
  | .accepted => (3, 0, [])
  | .refused (.invalid t i) => (4, 7, [BitVec.ofNat 16 t ++ BitVec.ofNat 16 i])
  | .refused c => (4, c.byte, [])

/-- A RESPONSE cell. -/
def Response.bytes (r : Response) : List Byte :=
  closeCell ([0x24, r.fields.1, r.fields.2.1, BitVec.ofNat 8 r.fields.2.2.length] ++
    r.fields.2.2.flatMap wordBytes)

/-! ## Display link, return lane (R207, R209) -/

/-- A REQUEST is long enough for the fields that every request carries: 9 bytes in all (R179, R209). -/
def requestGood (body : List Byte) : Bool := crcChecks 0x32 body && decide (9 ≤ body.length + 1)

/-- The header and payload of a REQUEST (R209). -/
def requestFields (body : List Byte) : Request :=
  { kind := cellByte body 1
    side := cellByte body 2
    id := cellByte body 3
    index := cellHalf body 4
    count := cellByte body 6
    payload := (cellFields body).drop 6 }

/-- The side a request names, if it names one (R209). -/
def Request.names (r : Request) : Option Side :=
  if r.side = 0 then some .a else if r.side = 1 then some .b else none

/-- The 16-bit words of a TABLE WRITE payload. -/
def payloadHalves : List Byte → List Half
  | b0 :: b1 :: rest => half b0 b1 :: payloadHalves rest
  | _ => []

/-- The 32-bit values of a WRITE SETTINGS payload. -/
def payloadWords : List Byte → List Word
  | b0 :: b1 :: b2 :: b3 :: rest => (half b0 b1 ++ half b2 b3) :: payloadWords rest
  | _ => []

/-- The request kinds of R209. -/
inductive RequestKind where
  | read
  | writeSettings
  | tableWrite
  | tableRead
  | copyBank
  | commitBank
  | acknowledge
  | viewRestore
  | forceWarning
  | warnStop
  | cameraPass
  | sideRestart
  | partReset
  | unknown
  deriving DecidableEq, Repr

/-- The kind a request's kind byte names (R209). -/
def Request.requestKind (r : Request) : RequestKind :=
  match r.kind.toNat with
  | 0x01 => .read
  | 0x02 => .writeSettings
  | 0x03 => .tableWrite
  | 0x04 => .tableRead
  | 0x05 => .copyBank
  | 0x06 => .commitBank
  | 0x07 => .acknowledge
  | 0x08 => .viewRestore
  | 0x09 => .forceWarning
  | 0x0A => .warnStop
  | 0x0B => .cameraPass
  | 0x0C => .sideRestart
  | 0x0D => .partReset
  | _ => .unknown

/-! ## Data words (R210) -/

/-- A field of a data word: the low width bits of n, its least significant bit at position lo. -/
def field (lo width n : Nat) : Nat := n % 2 ^ width * 2 ^ lo

/-- A one-bit field. -/
def flagAt (lo : Nat) (b : Bool) : Nat := field lo 1 b.toNat

/-- A data word that holds the given fields; every other bit is 0 (R210). -/
def packWord (fields : List Nat) : Word := BitVec.ofNat 32 fields.sum

end Sys2Proof.Machine
end

