-- ==== Sys2Proof/Machine/Ops.lean ====
section
/-! DEFINITION. The named operations over the state: a side and a link of the part, timers, the words of a bank, and
what a reader of the active bank takes (chapters 02 and 03). -/

namespace Sys2Proof.Machine

open Sys2Proof

/-! ## Sides and links -/

/-- The state of a side. -/
def State.side (s : State) : Side → SideState
  | .a => s.sideA
  | .b => s.sideB

/-- The state of a display link. -/
def State.link (s : State) : Side → LinkState
  | .a => s.linkA
  | .b => s.linkB

/-- Changes one side; the other side, the links and the part are left as they are. -/
def State.onSide (s : State) (x : Side) (f : SideState → SideState) : State :=
  match x with
  | .a => { s with sideA := f s.sideA }
  | .b => { s with sideB := f s.sideB }

/-- Changes one display link; everything else is left as it is. -/
def State.onLink (s : State) (x : Side) (f : LinkState → LinkState) : State :=
  match x with
  | .a => { s with linkA := f s.linkA }
  | .b => { s with linkB := f s.linkB }

/-- The report-pending flag of a link for a side (R147). -/
def LinkState.report (l : LinkState) : Side → Bool
  | .a => l.reportA
  | .b => l.reportB

/-- Sets or clears the report-pending flag of a link for a side. -/
def LinkState.setReport (l : LinkState) (x : Side) (v : Bool) : LinkState :=
  match x with
  | .a => { l with reportA := v }
  | .b => { l with reportB := v }

/-- A report becomes pending for the side on both display links (R147). -/
def markReports (s : State) (x : Side) : State :=
  (s.onLink .a (·.setReport x true)).onLink .b (·.setReport x true)

/-! ## Time (R28, R29) -/

/-- The elapsed time from one reading to a later one, modulo 2^32. -/
def elapsed (start now : Time) : Nat := (now - start).toNat

/-- A timer that was started at the reading held, with a duration in microseconds, has reached it. -/
def timerDue (timer : Option Time) (now : Time) (duration : Nat) : Bool :=
  match timer with
  | none => false
  | some start => decide (duration ≤ elapsed start now)

/-- The frame timeout of a side is due (R34). Its duration is read now, so a write governs a run in progress (R41). -/
def frameTimeoutDue (s : State) (x : Side) : Bool :=
  timerDue (s.side x).frameTimer s.timeBase ((s.side x).settings.frameTimeout * 1000)

/-- The standalone period timer of a side is due (R37, R38). -/
def periodDue (s : State) (x : Side) : Bool :=
  timerDue (s.side x).periodTimer s.timeBase (s.side x).settings.standalonePeriod

/-- The display timeout of a link is due; its duration is the DisplayTimeout of the link's side (R39, R41). -/
def displayTimeoutDue (s : State) (x : Side) : Bool :=
  timerDue (s.link x).displayTimer s.timeBase ((s.side x).settings.displayTimeout * 1000)

/-- The WARN pulse timer is due (R40, R41). -/
def warnPulseDue (s : State) : Bool :=
  timerDue s.warnTimer s.timeBase (s.warnPulseWidth * 1000)

/-! ## Saturation and limits -/

/-- A count that saturates. -/
def satAdd (limit n k : Nat) : Nat := min limit (n + k)

/-- Brings a value into the range lo to hi, as R63 does with E: below lo it becomes lo, above hi it becomes hi. -/
def clampInto (lo hi v : Nat) : Nat := if v < lo then lo else if hi < v then hi else v

/-- Lowers every value of a map above the limit to the limit (R63). -/
def clampMap (limit : Nat) (m : List Nat) : List Nat := m.map (min limit)

/-! ## The words of a bank (R44 to R48) -/

/-- The word a bank holds at an address; an unlisted word is 0 with good parity (R44). -/
def Bank.read : Bank → Nat → TableWord
  | [], _ => .zero
  | (a, w) :: rest, k => if a = k then w else Bank.read rest k

/-- Stores a word, keeping the canonical form: a word equal to 0 with good parity is not listed. -/
def Bank.store : Bank → Nat → TableWord → Bank
  | [], k, v => if v = .zero then [] else [(k, v)]
  | (a, w) :: rest, k, v =>
    if k < a then
      if v = .zero then (a, w) :: rest else (k, v) :: (a, w) :: rest
    else if a = k then
      if v = .zero then rest else (k, v) :: rest
    else (a, w) :: Bank.store rest k v

/-- A write by TABLE WRITE or COPY BANK stores a word with good parity (R48). -/
def Bank.write (b : Bank) (k : Nat) (v : Half) : Bank := Bank.store b k ⟨v, false⟩

/-- A failure strikes a word: it holds a value and has lost agreement with its parity bit (R48). -/
def Bank.strike (b : Bank) (k : Nat) (v : Half) : Bank := Bank.store b k ⟨v, true⟩

/-- Writes words at an address and the addresses that follow (R53). -/
def Bank.writeMany : Bank → Nat → List Half → Bank
  | b, _, [] => b
  | b, k, v :: vs => Bank.writeMany (Bank.write b k v) (k + 1) vs

/-- The listed addresses rise strictly from lo on, stay below 706, and no listed word is 0 with good parity. -/
def Bank.wfFrom : Nat → Bank → Bool
  | _, [] => true
  | lo, (a, w) :: rest =>
    decide (lo ≤ a) && decide (a < Config.bankWords) && w != .zero && Bank.wfFrom (a + 1) rest

/-- The canonical form of a bank. -/
def Bank.wf (b : Bank) : Bool := Bank.wfFrom 0 b

/-- The other bank. -/
def otherBank : BankId → BankId
  | .bank0 => .bank1
  | .bank1 => .bank0

/-- A bank of a side. -/
def Store.bank (t : Store) : BankId → Bank
  | .bank0 => t.bank0
  | .bank1 => t.bank1

/-- Changes one bank of a side. -/
def Store.onBank (t : Store) (i : BankId) (f : Bank → Bank) : Store :=
  match i with
  | .bank0 => { t with bank0 := f t.bank0 }
  | .bank1 => { t with bank1 := f t.bank1 }

/-- The shadow bank: the bank that is not active, and bank 0 while none is (R45). -/
def Store.shadow (t : Store) : BankId :=
  match t.active with
  | none => .bank0
  | some i => otherBank i

/-! ## Tables (R46, R50, chapter 11 Bank word map) -/

/-- The tables in bank order: offset and length of each table id (R46). -/
def tableLayout : List (Nat × Nat) := [(0, 13), (13, 221), (234, 257), (491, 192), (683, 16), (699, 7)]

/-- The offset of a table. -/
def tableOffset (t : Nat) : Nat := (tableLayout.getD t (0, 0)).1

/-- The length of a table. -/
def tableLength (t : Nat) : Nat := (tableLayout.getD t (0, 0)).2

/-- The table id of a bank word. -/
def wordTable (w : Nat) : Nat :=
  if w < 13 then 0 else if w < 234 then 1 else if w < 491 then 2 else if w < 683 then 3 else if w < 699 then 4 else 5

/-- The index of a bank word within its table. -/
def wordIndex (w : Nat) : Nat := w - tableOffset (wordTable w)

/-- The substitute values of the DEVELOP table, in index order (R50). -/
def developSubstitutes : List Nat := [640, 480, 0, 0, 0, 0, 256, 256, 256, 4095, 64, 64, 64]

/-- The substitute values of the GLARE table, in index order (R50). -/
def glareSubstitutes : List Nat := [4095, 256, 1, 255, 0, 0, 4095, 255, 0, 0, 0, 0, 0, 0, 0, 0]

/-- The substitute values of the EXPOSE table, in index order (R50). -/
def exposeSubstitutes : List Nat := [1024, 1023, 8, 1, 0, 511, 0]

/-- The substitute value of a bank word (R50). -/
def substitute (w : Nat) : Nat :=
  match wordTable w with
  | 0 => developSubstitutes.getD (wordIndex w) 0
  | 1 => 1024
  | 2 => min 255 (wordIndex w)
  | 3 => 0
  | 4 => glareSubstitutes.getD (wordIndex w) 0
  | _ => exposeSubstitutes.getD (wordIndex w) 0

/-- The value a reader uses for a stored word: the substitute in place of a failed word (R50). -/
def TableWord.used (t : TableWord) (w : Nat) : Nat := if t.failed then substitute w else t.value.toNat

/-- The values that a reader of the active bank takes for the words it reads. -/
def takenValues (b : Bank) (ws : List Nat) : List Nat := ws.map fun w => (b.read w).used w

/-- The words among those read that are failed, in the order read. -/
def failedWords (b : Bank) (ws : List Nat) : List Nat := ws.filter fun w => (b.read w).failed

/-- The findings of one occasion entered in the parity record: the first failure is kept once present, and the count
saturates at 255 (R50). -/
def ParityRecord.enter (p : ParityRecord) (bank : BankId) (failed : List Nat) : ParityRecord :=
  match failed with
  | [] => p
  | w :: _ =>
    { first := p.first.orElse fun _ => some ⟨bank, wordTable w, wordIndex w⟩
      count := satAdd 255 p.count failed.length }

/-- The active bank of a side, empty while there is none. -/
def Store.activeBank (t : Store) : Bank :=
  match t.active with
  | none => []
  | some i => t.bank i

/-- The findings of a reader of the active bank: TABLE_PARITY and the parity record (R50). The change of TABLE_PARITY is
handed to the fault groups by the command that read the words. -/
def SideState.findFailed (d : SideState) (ws : List Nat) : SideState :=
  match d.store.active with
  | none => d
  | some i =>
    match failedWords (d.store.bank i) ws with
    | [] => d
    | w :: rest =>
      { d with
        store := { d.store with parity := d.store.parity.enter i (w :: rest) }
        cond := { d.cond with tableParity := true } }

/-- The values that a reader of the active bank takes (R49, R50). -/
def SideState.take (d : SideState) (ws : List Nat) : List Nat := takenValues d.store.activeBank ws

/-- The bank words 0 to 490: DEVELOP, SHADE and TONE (R49). -/
def frameWordList : List Nat := List.range Config.frameWords

/-- The bank words of the WEIGHT table. -/
def weightWordList : List Nat := (List.range 192).map (491 + ·)

/-- The bank words of the GLARE table. -/
def glareWordList : List Nat := (List.range 16).map (683 + ·)

/-- The bank words of the EXPOSE table. -/
def exposeWordList : List Nat := (List.range 7).map (699 + ·)

/-- The words a swap takes, in word order: W, H, MaxAtten, Emin, Emax, Einit (R49). That Einit is read, and its failure
found, at a swap that finds E set too is the model's choice: R111 speaks of one that finds it unset (log 35). -/
def swapWordList : List Nat := [0, 1, 687, 703, 704, 705]

/-! ## Validity (R47) -/

/-- A value lies in a range. -/
def inRange (lo hi v : Nat) : Bool := decide (lo ≤ v) && decide (v ≤ hi)

/-- A word of the DEVELOP table is valid (R47). -/
def developValid (i v : Nat) : Bool :=
  if i = 0 then inRange 640 1920 v && v % 32 == 0
  else if i = 1 then inRange 480 1080 v && v % 24 == 0
  else if i = 2 then inRange 0 1 v
  else if i ≤ 5 then inRange 0 1023 v
  else if i ≤ 8 then inRange 1 1023 v
  else if i = 9 then inRange 0 4095 v
  else inRange 0 255 v

/-- A word of the GLARE table is valid; g gives the value that a GLARE word of the same bank holds (R47). -/
def glareValid (g : Nat → Nat) (i v : Nat) : Bool :=
  if i = 0 then inRange 0 4095 v
  else if i = 1 then inRange 1 256 v
  else if i = 2 then inRange 1 255 v
  else if i = 3 then inRange 1 255 v
  else if i = 4 then inRange 0 224 v
  else if i = 5 then inRange 0 4095 v
  else if i = 6 then inRange (g 5) 4095 v
  else if i = 7 then inRange 1 255 v
  else inRange 0 (g 4) v

/-- A word of the EXPOSE table is valid; e gives the value that an EXPOSE word of the same bank holds (R47). -/
def exposeValid (e : Nat → Nat) (i v : Nat) : Bool :=
  if i = 0 then inRange 0 4095 v
  else if i = 1 then inRange 0 1023 v
  else if i = 2 then inRange 0 8 v
  else if i = 3 then inRange 1 64 v
  else if i = 4 then inRange 0 511 v
  else if i = 5 then inRange (e 4) 511 v
  else inRange (e 4) (e 5) v

/-- A word of a bank is valid, judged on the values the memory holds (R47). -/
def wordValid (b : Bank) (w : Nat) : Bool :=
  let v := (b.read w).value.toNat
  match wordTable w with
  | 0 => developValid (wordIndex w) v
  | 1 => inRange 0 4095 v
  | 2 => inRange 0 255 v
  | 3 => inRange 0 15 v
  | 4 => glareValid (fun i => (b.read (683 + i)).value.toNat) (wordIndex w) v
  | _ => exposeValid (fun i => (b.read (699 + i)).value.toNat) (wordIndex w) v

/-! ## Responses (R183) -/

/-- Places a response in the reserved slot of a response queue. -/
def fillReserved : List ResponseSlot → Response → List ResponseSlot
  | [], _ => []
  | .reserved :: rest, r => .ready r :: rest
  | .ready q :: rest, r => .ready q :: fillReserved rest r

/-- Places the response of the operation in flight in its reserved slot (R57, R60). -/
def LinkState.fill (l : LinkState) (r : Response) : LinkState :=
  { l with responses := fillReserved l.responses r }

/-- Places a response at once in the slot reserved for the request taken (R183, R187). -/
def LinkState.answer (l : LinkState) (r : Response) : LinkState :=
  { l with responses := l.responses ++ [.ready r] }

/-- Leaves the slot of a request that has begun an operation reserved (R55, R58). -/
def LinkState.reserve (l : LinkState) : LinkState :=
  { l with responses := l.responses ++ [.reserved] }

end Sys2Proof.Machine
end

