-- ==== Sys2Proof/Machine/Develop.lean ====
section
/-! DEFINITION. The Development Pipeline: the frame values in use, the seven stages, the statistics tap, and what one
handed line does (chapter 04). -/

namespace Sys2Proof.Machine

open Sys2Proof

/-! ## Frame values (R68, chapter 11 Bank word map) -/

/-- The 491 words of DEVELOP, SHADE and TONE, in bank order. -/
abbrev FrameValues := List Nat

/-- A word of the frame values. -/
def FrameValues.word (v : FrameValues) (w : Nat) : Nat := List.getD v w 0

/-- W. -/
def FrameValues.width (v : FrameValues) : Nat := v.word 0

/-- H. -/
def FrameValues.height (v : FrameValues) : Nat := v.word 1

/-- Flip. -/
def FrameValues.flip (v : FrameValues) : Nat := v.word 2

/-- BkR, BkG, BkB. -/
def FrameValues.bk (v : FrameValues) : Rgb := ⟨v.word 3, v.word 4, v.word 5⟩

/-- WbR, WbG, WbB. -/
def FrameValues.wb (v : FrameValues) : Rgb := ⟨v.word 6, v.word 7, v.word 8⟩

/-- ClipLevel. -/
def FrameValues.clipLevel (v : FrameValues) : Nat := v.word 9

/-- WvR, WvG, WvB. -/
def FrameValues.wv (v : FrameValues) : Rgb := ⟨v.word 10, v.word 11, v.word 12⟩

/-- The shading point P[i][j] (R46, R73). -/
def FrameValues.shade (v : FrameValues) (i j : Nat) : Nat := v.word (13 + 17 * j + i)

/-- The tone entry T[i] (R46, R80). -/
def FrameValues.tone (v : FrameValues) (i : Nat) : Nat := v.word (234 + i)

/-- The tile width of a frame of width w (R69). -/
def tileWidth (w : Nat) : Nat := w / 16

/-- The tile height of a frame of height h (R69). -/
def tileHeight (h : Nat) : Nat := h / 12

/-- The tile area of a frame (R69). -/
def tileArea (w h : Nat) : Nat := tileWidth w * tileHeight h

/-! ## Stages 1 to 3 -/

/-- Stage 1, black level (R72). -/
def stage1 (bk c : Nat) : Nat := c - bk

/-- The rounded weighted mean of four points around a position (R73, R78). -/
def interpolate (p00 p10 p01 p11 tw th fx fy : Nat) : Nat :=
  let top := p00 * (tw - fx) + p10 * fx
  let bottom := p01 * (tw - fx) + p11 * fx
  (top * (th - fy) + bottom * fy + tw * th / 2) / (tw * th)

/-- The shading gain of the pixel (x, y) by corner-grid interpolation (R73). -/
def shadingGain (v : FrameValues) (x y : Nat) : Nat :=
  let tw := tileWidth v.width
  let th := tileHeight v.height
  let i := x / tw
  let j := y / th
  interpolate (v.shade i j) (v.shade (i + 1) j) (v.shade i (j + 1)) (v.shade (i + 1) (j + 1)) tw th
    (x - i * tw) (y - j * th)

/-- Stage 2, shading (R74). -/
def stage2 (gain c1 : Nat) : Nat := min 4095 ((c1 * gain + 512) / 1024)

/-- Stage 3, white balance (R75). -/
def stage3 (wb c2 : Nat) : Nat := min 4095 ((c2 * wb + 128) / 256)

/-- The stage-3 values of a payload pixel at (x, y). -/
def correctPixel (v : FrameValues) (x y : Nat) (p : Rgb) : Rgb :=
  let gain := shadingGain v x y
  ⟨stage3 v.wb.r (stage2 gain (stage1 v.bk.r p.r)),
   stage3 v.wb.g (stage2 gain (stage1 v.bk.g p.g)),
   stage3 v.wb.b (stage2 gain (stage1 v.bk.b p.b))⟩

/-- Stages 1 to 3 of a payload line: x counts from 0 in sensor order (R67). -/
def correctLine (v : FrameValues) (y : Nat) (px : List Rgb) : List Rgb :=
  px.zipIdx.map fun (p, x) => correctPixel v x y p

/-! ## The statistics tap (R76, R90) -/

/-- The luma of a pixel (R76). -/
def luma (p : Rgb) : Nat := (5 * p.r + 9 * p.g + 2 * p.b + 8) / 16

/-- The clip flag of a pixel (R76). -/
def clipped (clipLevel : Nat) (p : Rgb) : Bool :=
  decide (clipLevel ≤ p.r) || decide (clipLevel ≤ p.g) || decide (clipLevel ≤ p.b)

/-- The pixels of a line that belong to tile column i (R69). -/
def columnPixels (tw : Nat) (px : List Rgb) (i : Nat) : List Rgb :=
  (px.zipIdx.filter fun (_, x) => x / tw == i).map Prod.fst

/-- Adds the tap's results of a line to the record of one tile (R76, R90). -/
def tapTile (v : FrameValues) (y : Nat) (px : List Rgb) (idx : Nat) (t : Tile) : Tile :=
  if y / tileHeight v.height = idx / 16 then
    let mine := columnPixels (tileWidth v.width) px (idx % 16)
    ⟨t.luma + (mine.map luma).sum, t.clips + (mine.filter (clipped v.clipLevel)).length⟩
  else t

/-- The tap takes one line: the first pixel of a frame makes an EMPTY buffer GATHERING with every record 0 (R90). -/
def tapLine (v : FrameValues) (y : Nat) (px : List Rgb) (g : Gathering) : Gathering :=
  let start := if g.gathering then g.tiles else zeroTiles
  ⟨true, start.zipIdx.map fun (t, idx) => tapTile v y px idx t⟩

/-! ## Stages 4 to 7 -/

/-- The cell and the offset of a position on the centre grid: u is the distance from the first centre, none if the
position lies before it; last is the last column or row (R78). -/
def centreCell (pos size last : Nat) : Nat × Nat :=
  if pos < size / 2 then (0, 0)
  else
    let u := pos - size / 2
    if last ≤ u / size then (last, 0) else (u / size, u - u / size * size)

/-- The map value of tile (i, j). -/
def mapAt (m : List Nat) (i j : Nat) : Nat := m.getD (j * 16 + i) 0

/-- A map value that is read only where its weight is not 0 (R78). -/
def weightedAt (m : List Nat) (i j weight : Nat) : Nat := if weight = 0 then 0 else mapAt m i j

/-- The attenuation of the pixel (x, y) by tile-centre interpolation of the map in use (R78). -/
def attenuation (v : FrameValues) (m : List Nat) (x y : Nat) : Nat :=
  let tw := tileWidth v.width
  let th := tileHeight v.height
  let (i, fx) := centreCell x tw 15
  let (j, fy) := centreCell y th 11
  interpolate (mapAt m i j) (weightedAt m (i + 1) j fx) (weightedAt m i (j + 1) fy)
    (weightedAt m (i + 1) (j + 1) (fx * fy)) tw th fx fy

/-- Stage 4, glare highlight compression (R79). -/
def stage4 (knee g c3 : Nat) : Nat := if c3 ≤ knee then c3 else knee + (c3 - knee) * g / 256

/-- Stage 5, tone curve (R80). -/
def stage5 (v : FrameValues) (c4 : Nat) : Nat :=
  let idx := c4 / 16
  let f := c4 % 16
  let d : Int := (v.tone (idx + 1) : Int) - v.tone idx
  let out : Int := v.tone idx + (d * f + 8) / 16
  (max 0 (min 255 out)).toNat

/-- Stage 6, warning fade (R81). -/
def stage6 (m wv out : Nat) : Nat := (out * (64 - m) + wv * m + 32) / 64

/-- Stages 4 to 6 of the pixel (x, y). -/
def shapePixel (v : FrameValues) (k : Shaping) (x y : Nat) (p : Rgb) : Rgb :=
  let g := 256 - attenuation v k.map x y
  let wv := v.wv
  ⟨stage6 k.fade wv.r (stage5 v (stage4 k.knee g p.r)),
   stage6 k.fade wv.g (stage5 v (stage4 k.knee g p.g)),
   stage6 k.fade wv.b (stage5 v (stage4 k.knee g p.b))⟩

/-- Stage 7, flip: with Flip 1 the pixel at x leaves at W - 1 - x (R83). -/
def flipLine (flip : Nat) (px : List Rgb) : List Rgb := if flip = 1 then px.reverse else px

/-- Stages 4 to 7 of a line (R85). -/
def shapeLine (v : FrameValues) (k : Shaping) (y : Nat) (px : List Rgb) : OutLine :=
  ⟨y, flipLine v.flip (px.zipIdx.map fun (p, x) => shapePixel v k x y p)⟩

/-! ## A handed line -/

/-- The frame values in use, empty while there are none. -/
def Pipeline.inUse (p : Pipeline) : FrameValues := p.values.getD []

/-- The map, knee and fade factor in use. -/
def Pipeline.shaping (p : Pipeline) : Shaping := ⟨p.map, p.knee, p.fade⟩

/-- W and H of the frame values in use. -/
def SideState.frameWidth (d : SideState) : Nat := d.pipe.inUse.width

/-- H of the frame values in use. -/
def SideState.frameHeight (d : SideState) : Nat := d.pipe.inUse.height

/-- The stage-3 values of a line pass the tap (R76). -/
def SideState.tap (d : SideState) (y : Nat) (px : List Rgb) : SideState :=
  { d with stats := { d.stats with gathering := tapLine d.pipe.inUse y px d.stats.gathering } }

/-- A payload line: its stage-3 values pass the tap and replace the last-good-line buffer, and its CRC is added to the
signature accumulator (R9, R16, R67). -/
def SideState.payload (d : SideState) (y : Nat) (px : List Rgb) (crc : Half) : SideState × OutLine :=
  let good := correctLine d.pipe.inUse y px
  let d1 := d.tap y good
  ({ d1 with recv := { d1.recv with lastGood := good, signature := d1.recv.signature + crc } },
   shapeLine d.pipe.inUse d.pipe.shaping y good)

/-- A concealed line takes the contents of the last-good-line buffer as its stage-3 values (R15, R85). -/
def SideState.conceal (d : SideState) (y : Nat) : SideState × OutLine :=
  (d.tap y d.recv.lastGood, shapeLine d.pipe.inUse d.pipe.shaping y d.recv.lastGood)

/-- Line y is filled: concealed, and counted missing (R10, R15, R17). -/
def SideState.fillLine (d : SideState) (y : Nat) : SideState × OutLine :=
  let (d1, line) := d.conceal y
  ({ d1 with recv := { d1.recv with missing := d1.recv.missing + 1 } }, line)

/-- The next line that a SIDE RESTART has left, developed with the values in use before the restart (R88). -/
def Remainder.line (r : Remainder) : OutLine := shapeLine r.values r.shaping r.next r.lastGood

/-- What is left after that line. -/
def Remainder.advance (r : Remainder) : Remainder := { r with next := r.next + 1 }

end Sys2Proof.Machine
end

