-- ==== Sys2Proof/Machine/Flags.lean ====
section
/-! DEFINITION. Conditions, fault groups, FAULT, WARN and the view guard: what a change of a condition vector or of a
group's settings does (chapters 07 and 08). -/

namespace Sys2Proof.Machine

open Sys2Proof

/-! ## The condition vector (R130) -/

/-- The conditions in the positions 0 to 15. -/
def Conditions.flags (c : Conditions) : List Bool :=
  [c.linkLoss, c.format, c.lineMissing, c.frozen, c.lineCrc, c.frameInterval, c.statusCksum, c.cameraFault,
   c.cameraNoAck, c.tempHigh, c.exposurePinned, c.glareWide, c.displayFault, c.tableParity, c.noTables, c.forced]

/-- The condition vector as 16 bits: the condition at position p is bit p, 1 true (R208). -/
def Conditions.vector (c : Conditions) : Half := BitVec.ofNat 16 (flagNat c.flags)

/-! ## Fault groups (R133 to R138) -/

/-- The groups in order. -/
def Groups.list (g : Groups) : List Group := [g.g0, g.g1, g.g2, g.g3]

/-- The groups of a side before and after an evaluation, in pairs. -/
def Groups.pairs (old new : Groups) : List (Group × Group) :=
  [(old.g0, new.g0), (old.g1, new.g1), (old.g2, new.g2), (old.g3, new.g3)]

/-- Changes each group. -/
def Groups.map (f : Group → Group) (g : Groups) : Groups := ⟨f g.g0, f g.g1, f g.g2, f g.g3⟩

/-- A condition in the mask holds a value other than its reference flag (R133). -/
def Group.mismatch (g : Group) (v : Half) : Bool := (v ^^^ g.reference) &&& g.mask != 0

/-- One evaluation of a group: its state, and its event flag if it raises an event (R134, R135). -/
def Group.judge (v : Half) (g : Group) : Group :=
  { g with nonconforming := g.mismatch v, flag := g.flag || (g.mismatch v && !g.nonconforming) }

/-- A group has raised an event: NONCONFORMING now and CONFORMING before (R135). -/
def raisedEvent (old new : Group) : Bool := new.nonconforming && !old.nonconforming

/-- An event of level 1 or higher, which makes a report pending (R135). -/
def reportsEvent (p : Group × Group) : Bool := raisedEvent p.1 p.2 && decide (1 ≤ p.2.level)

/-- A trip: an event of level 3 (R135), or a level raised to 3 while the group is NONCONFORMING (R138). -/
def trips (p : Group × Group) : Bool :=
  p.2.nonconforming && p.2.level == 3 && (!p.1.nonconforming || p.1.level != 3)

/-- A group of level 2 or 3 that is NONCONFORMING or has its event flag set asserts FAULT (R143). -/
def Group.assertsFault (g : Group) : Bool := decide (2 ≤ g.level) && (g.nonconforming || g.flag)

/-- FAULT as the eight groups of both sides give it (R143). -/
def faultOf (s : State) : Bool :=
  s.sideA.groups.list.any Group.assertsFault || s.sideB.groups.list.any Group.assertsFault

/-- FAULT is judged (R143). -/
def judgeFault (s : State) : State := { s with fault := faultOf s }

/-- Every group of level 3 is CONFORMING (R154). -/
def Groups.restoreReady (g : Groups) : Bool := g.list.all fun k => !(k.level == 3 && k.nonconforming)

/-! ## WARN (R40, R145) -/

/-- A WARN pulse start: it begins a pulse if WARN is INACTIVE and changes nothing otherwise (R40). -/
def warnPulseStart (s : State) : State :=
  if s.warn then s else { s with warn := true, warnTimer := some s.timeBase }

/-- A WARN pulse in progress ends; with none in progress nothing changes (R40, R146). -/
def warnPulseEnd (s : State) : State :=
  if s.warn then { s with warn := false, warnTimer := none } else s

/-! ## The view guard (chapter 08) -/

/-- The guard of a side takes a state, m and countdown; a change of state makes a report pending (R153, R157). -/
def setGuard (s : State) (x : Side) (st : GuardState) (m countdown : Nat) : State :=
  let s1 := s.onSide x fun d =>
    { d with guard := { d.guard with state := st, m := m, countdown := countdown } }
  if (s.side x).guard.state = st then s1 else markReports s1 x

/-- The side has no developed picture to fade from (R156). -/
def noPicture (c : Conditions) : Bool := c.linkLoss || c.format || c.noTables

/-- A trip reaches the guard (R155, R156). A change into FADING or HELD starts a WARN pulse (R157). -/
def trip (s : State) (x : Side) : State :=
  let d := s.side x
  match d.guard.state with
  | .clear | .restoring =>
    if noPicture d.cond then warnPulseStart (setGuard s x .held 64 0)
    else warnPulseStart (setGuard s x .fading d.guard.m 0)
  | .waiting => warnPulseStart (setGuard s x .held 64 0)
  | .fading | .held => s

/-- Restoration starts: WAITING with the countdown at RestoreFrames, or RESTORING if RestoreFrames is 0 (R159). -/
def startRestoration (s : State) (x : Side) : State :=
  let frames := (s.side x).settings.restoreFrames
  if frames = 0 then setGuard s x .restoring 64 0 else setGuard s x .waiting 64 frames

/-- With RestoreMode AUTO, a guard in HELD on a restore-ready side starts restoration (R159). -/
def judgeRestoration (s : State) (x : Side) : State :=
  let d := s.side x
  if d.guard.state = .held ∧ d.guard.ready = true ∧ d.settings.restoreMode = .auto then startRestoration s x else s

/-- Restore-ready takes a value. -/
def SideState.setReady (d : SideState) (v : Bool) : SideState := { d with guard := { d.guard with ready := v } }

/-- Restore-readiness is judged; when it becomes set, the guard acts on it (R154, R159). -/
def judgeReady (s : State) (x : Side) : State :=
  let d := s.side x
  let now := d.groups.restoreReady
  let s1 := s.onSide x (·.setReady now)
  if now && !d.guard.ready then judgeRestoration s1 x else s1

/-- Every group of a side is judged on the vector as it stands (R133, R135). -/
def SideState.judgeGroups (d : SideState) : SideState :=
  { d with groups := d.groups.map (Group.judge d.cond.vector) }

/-- What follows once the groups are judged and reports marked: FAULT once, restore-readiness, and one trip (R136). -/
def actOnGroups (s : State) (x : Side) (tripped : Bool) : State :=
  let s1 := judgeReady (judgeFault s) x
  if tripped then trip s1 x else s1

/-- One evaluation of the four groups of a side, compared with the groups as they stood before: event flags, one report,
FAULT once, restore-readiness, and one trip (R134 to R138). -/
def evaluateFrom (s : State) (x : Side) (old : Groups) : State :=
  let s1 := s.onSide x SideState.judgeGroups
  let pairs := old.pairs (s1.side x).groups
  actOnGroups (if pairs.any reportsEvent then markReports s1 x else s1) x (pairs.any trips)

/-- One evaluation after a change of the vector (R134). -/
def evaluate (s : State) (x : Side) : State := evaluateFrom s x (s.side x).groups

/-- The changes that a command has made to the vector since it held before reach the groups as one change; a vector that
has not changed is not handed on (R130). -/
def settle (s : State) (x : Side) (before : Conditions) : State :=
  if (s.side x).cond = before then s else evaluate s x

/-- The step of the guard at an egress frame start (R158, R159, R162). -/
def guardStep (s : State) (x : Side) : State :=
  let d := s.side x
  match d.guard.state with
  | .fading =>
    let m := min 64 (d.guard.m + d.settings.fadeStep)
    if m = 64 then judgeRestoration (setGuard s x .held 64 0) x else setGuard s x .fading m 0
  | .restoring =>
    let m := d.guard.m - d.settings.fadeStep
    if m = 0 then setGuard s x .clear 0 0 else setGuard s x .restoring m 0
  | .clear | .held | .waiting => s

/-- The end of an accepted frame that was not abandoned reaches the guard (R160). -/
def guardFrameEnd (s : State) (x : Side) : State :=
  let g := (s.side x).guard
  match g.state with
  | .waiting => if g.countdown ≤ 1 then setGuard s x .restoring 64 0 else setGuard s x .waiting 64 (g.countdown - 1)
  | .clear | .fading | .held | .restoring => s

end Sys2Proof.Machine
end

