-- ==== Sys2Proof/Machine/Egress.lean ====
section
/-! DEFINITION. The Egress Transmitter: the choice of the next cell, the insertion arbiter, report cells, the egress
frame start, the handing of lines and FRAME ENDs, and the completions of cells (chapter 09; R165 to R168). -/

namespace Sys2Proof.Machine

open Sys2Proof

/-! ## Report cells (R178, R208) -/

/-- The code of a guard state (R208). -/
def GuardState.code : GuardState → Nat
  | .clear => 0
  | .fading => 1
  | .held => 2
  | .waiting => 3
  | .restoring => 4

/-- The states of G0 to G3, 1 NONCONFORMING. -/
def Groups.states (g : Groups) : List Bool := g.list.map Group.nonconforming

/-- The event flags of G0 to G3. -/
def Groups.flags (g : Groups) : List Bool := g.list.map Group.flag

/-- The side byte of a report. -/
def sideByte : Side → Byte
  | .a => 0
  | .b => 1

/-- The active bank byte of a report: 0, 1, or 0xFF for none. -/
def activeByte : Option BankId → Byte
  | none => 0xFF
  | some .bank0 => 0
  | some .bank1 => 1

/-- A report of a side, built from the state as it stands (R178, R208). -/
def reportCell (s : State) (x : Side) : List Byte :=
  let d := s.side x
  closeCell
    ([0x25, sideByte x] ++ halfBytes d.cond.vector ++
      [flagByte (d.groups.states ++ d.groups.flags),
       BitVec.ofNat 8 d.guard.state.code,
       BitVec.ofNat 8 d.guard.m,
       flagByte [d.guard.ready, decide (d.glare.night = .night), d.store.commitPending, s.fault, s.warn,
         s.notice.isSome, decide (s.notice = some .request), d.exposure.index.isSome],
       BitVec.ofNat 8 d.glare.zoneCount] ++
      natBytes (d.exposure.index.getD 0) ++ [activeByte d.store.active])

/-! ## The choice of the next cell (R172, R176, R177) -/

/-- Begins the transmission of a cell. -/
def LinkState.send (l : LinkState) (kind : EgressKind) (bytes : List Byte) : LinkState :=
  { l with lane := .sending kind bytes }

/-- A line of a standalone frame: W pixels of its colour (R166, R174). -/
def EgressFrame.uniformLine (f : EgressFrame) : OutLine := ⟨f.sent, List.replicate f.width f.colour⟩

/-- The next frame cell is sent if it is ready: the FRAME START of the oldest frame in progress, then its lines, then
its FRAME END once it has been handed and every line has been sent (R172 to R175). A frame whose FRAME START still
waits stands behind those that have none waiting. -/
def LinkState.nextFrameCell (l : LinkState) : LinkState :=
  match l.frames with
  | [] => l
  | f :: rest =>
    if l.frames.length ≤ l.waitingStarts.length then
      match l.waitingStarts with
      | [] => l
      | c :: _ => l.send .frameStart c.bytes
    else
      match f.source with
      | .follow =>
        if f.sent < f.height then
          match l.buffer with
          | [] => l
          | line :: lines =>
            { l with
              lane := .sending .line line.bytes
              buffer := lines
              frames := { f with sent := f.sent + 1 } :: rest }
        else if f.ended then l.send .frameEnd frameEndCell else l
      | .standalone =>
        if f.ended = false ∧ f.sent < f.height then
          { l with
            lane := .sending .line f.uniformLine.bytes
            frames := { f with sent := f.sent + 1 } :: rest }
        else l.send .frameEnd frameEndCell

/-- The arbiter chooses a ready response from the head of the response queue (R177). -/
def LinkState.sendResponse (l : LinkState) : Option LinkState :=
  match l.responses with
  | .ready r :: rest => some { l with lane := .sending .response r.bytes, responses := rest }
  | _ => none

/-- One choice of the arbiter of a link: a report of side A, then of side B, then the head response, else nothing
(R177). The report is built now and its flag on this link becomes clear (R178). -/
def arbiter (s : State) (l : LinkState) : Option LinkState :=
  if l.reportA then some { l with lane := .sending .report (reportCell s .a), reportA := false }
  else if l.reportB then some { l with lane := .sending .report (reportCell s .b), reportB := false }
  else l.sendResponse

/-- The transmitter chooses on an IDLE lane: the frame-end run first if it is open, else the next frame cell (R172,
R176). -/
def chooseCell (s : State) (l : LinkState) : LinkState :=
  match l.run with
  | none => l.nextFrameCell
  | some n =>
    if l.waitingStarts ≠ [] ∨ Config.runCells ≤ n then { l with run := none }.nextFrameCell
    else
      match arbiter s l with
      | some l1 => { l1 with run := some (n + 1) }
      | none => { l with run := none }.nextFrameCell

/-- The transmitter of a link chooses if its lane is IDLE (R172). -/
def kick (s : State) (x : Side) : State :=
  if (s.link x).lane = .idle then s.onLink x (chooseCell s) else s

/-- The insertion opportunity after a LINE: the arbiter is offered it once, then the next frame cell follows (R176). -/
def afterLine (s : State) (l : LinkState) : LinkState :=
  match arbiter s l with
  | some l1 => l1
  | none => l.nextFrameCell

/-! ## Lines and FRAME ENDs handed to the transmitter (R174, R175) -/

/-- A line of the side waits in the pipeline (R174). -/
def waits (s : State) (x : Side) : Bool := (s.side x).pipe.waiting.isSome

/-- The egress line buffer of a link has room (R174). -/
def LinkState.hasRoom (l : LinkState) : Bool := decide (l.buffer.length < Config.bufferLines)

/-- A line joins the tail of the egress line buffer, and the transmitter chooses if its lane is IDLE (R172, R174). -/
def enterBuffer (s : State) (x : Side) (line : OutLine) : State :=
  kick (s.onLink x fun l => { l with buffer := l.buffer ++ [line] }) x

/-- The line that waits in the pipeline becomes w. -/
def SideState.setWaiting (d : SideState) (w : Option Waiting) : SideState :=
  { d with pipe := { d.pipe with waiting := w } }

/-- The pipeline delivers a developed line to the egress line buffer; with no room the line waits in the pipeline, with
what is to follow its delivery (R174). -/
def deliver (s : State) (x : Side) (line : OutLine) (after : After) : State :=
  if (s.link x).hasRoom then enterBuffer s x line else s.onSide x (·.setWaiting (some ⟨line, after⟩))

/-- A line waits and the buffer has room for it (R174). -/
def canDeliver (s : State) (x : Side) : Bool := waits s x && (s.link x).hasRoom

/-- The waiting line is delivered: it waits no more and joins the buffer (R174). -/
def deliverWaiting (s : State) (x : Side) (line : OutLine) : State :=
  enterBuffer (s.onSide x (·.setWaiting none)) x line

/-- Hands the FRAME END of the frames of a source to the transmitter (R175). -/
def LinkState.handEnd (l : LinkState) (src : Source) : LinkState :=
  { l with frames := l.frames.map fun f => if f.source = src then { f with ended := true } else f }

/-- The FRAME END of the follow frame in progress is handed to the transmitter (R20, R21, R27). -/
def handFollowEnd (s : State) (x : Side) : State := kick (s.onLink x (·.handEnd .follow)) x

/-! ## The egress frame start (R173) -/

/-- The pipeline takes the next map if its ready flag is set, and the guard's m (R70, R71). -/
def SideState.takeInUse (d : SideState) : SideState :=
  { d with
    pipe :=
      { d.pipe with
        map := if d.pipe.nextReady then d.glare.next else d.pipe.map
        knee := if d.pipe.nextReady then d.glare.nextKnee else d.pipe.knee
        nextReady := false
        fade := d.guard.m } }

/-- Builds the FRAME START of an egress frame, which joins the frames in progress; the egress frame number advances
modulo 256 (R173). -/
def LinkState.beginFrame (l : LinkState) (src : Source) (fade w h : Nat) (colour : Rgb) : LinkState :=
  { l with
    waitingStarts := l.waitingStarts ++
      [⟨l.number, src, decide (0 < fade) || src.bit, w, h⟩]
    number := l.number + 1
    frames := l.frames ++ [⟨src, w, h, colour, 0, false⟩] }

/-- The egress frame joins the lane of the side's link with the fade factor in use as it stands. -/
def beginEgressFrame (s : State) (x : Side) (src : Source) (w h : Nat) (colour : Rgb) : State :=
  kick (s.onLink x fun l => l.beginFrame src (s.side x).pipe.fade w h colour) x

end Sys2Proof.Machine
end

