-- ==== Sys2Proof/Machine/Exposure.lean ====
section
/-! DEFINITION. The Exposure Unit and the Command Lane Transmitter: metering and stepping of E, the command logic, the
exposure slot, the transmitter, the ack counter and the acknowledgment (chapter 06). -/

namespace Sys2Proof.Machine

open Sys2Proof

/-! ## The Command Lane Transmitter (R118, R119) -/

/-- The transmitter chooses on an IDLE lane: a WAITING_TX slot first, then the head of the pass-through queue (R119). -/
def Exposure.choose (e : Exposure) : Exposure :=
  match e.lane with
  | .idle =>
    match e.slot with
    | .waitingTx tag index => { e with lane := .exposure (exposureCell tag index), slot := .sent tag index 0 }
    | .empty | .sent _ _ _ =>
      match e.passQueue with
      | [] => e
      | payload :: rest => { e with lane := .pass (passCell payload), passQueue := rest }
  | .exposure _ | .pass _ => e

/-- A transmission on the command lane completes, and the transmitter chooses again (R118). -/
def Exposure.complete (e : Exposure) : Exposure :=
  match e.lane with
  | .idle => e
  | .exposure _ | .pass _ => Exposure.choose { e with lane := .idle }

/-! ## The command logic (R117) -/

/-- Makes a new exposure command if E is set, differs from the last commanded E and the slot is EMPTY; the transmitter
is then offered the slot (R117). -/
def Exposure.commandLogic (e : Exposure) : Exposure :=
  match e.index, e.slot with
  | some index, .empty =>
    if e.last = some index then e
    else Exposure.choose { e with tag := e.tag + 1, slot := .waitingTx (e.tag + 1) index, last := some index }
  | _, _ => e

/-! ## Ack counter, acknowledgment and link loss (R121 to R124) -/

/-- The ack counter of a SENT slot times out at this accepted frame start (R121). -/
def Exposure.timesOut (ackFrames : Nat) (e : Exposure) : Bool :=
  match e.slot with
  | .sent _ _ acks => decide (ackFrames ≤ acks + 1)
  | .empty | .waitingTx _ _ => false

/-- An accepted frame start advances the ack counter of a SENT slot; on a timeout the slot returns to WAITING_TX with
the same tag and E, and the transmitter is offered it (R121). -/
def Exposure.frameStart (ackFrames : Nat) (e : Exposure) : Exposure :=
  match e.slot with
  | .sent tag index acks =>
    if ackFrames ≤ acks + 1 then Exposure.choose { e with slot := .waitingTx tag index }
    else { e with slot := .sent tag index (acks + 1) }
  | .empty | .waitingTx _ _ => e

/-- A status cell's applied tag matches the tag held by the slot (R122). -/
def Exposure.acknowledges (tag : BitVec 4) (e : Exposure) : Bool :=
  match e.slot with
  | .waitingTx t _ => t == tag
  | .sent t _ _ => t == tag
  | .empty => false

/-- An acknowledgment empties the slot and runs the command logic (R122). DESIGN CHOICE (log 34): with an IDLE lane
and E moved on, the new command is SENT in this same step, as R118 and R119 state, so that the next accepted frame
start advances its ack counter; R123 says of this order that the slot is EMPTY or in WAITING_TX and that the frame
start advances nothing. -/
def Exposure.acknowledge (e : Exposure) : Exposure := Exposure.commandLogic { e with slot := .empty }

/-- A link loss forgets the command in progress (R124). -/
def Exposure.linkLoss (e : Exposure) : Exposure := { e with slot := .empty, last := none }

/-! ## The exposure part of a frame-end update (R112 to R115) -/

/-- The tiles metered: new target 0 and weight above 0, as pairs of weight and tile mean (R113). -/
def meteredTiles (weights means targets : List Nat) : List (Nat × Nat) :=
  ((List.range Config.tiles).filter fun i => targets.getD i 0 == 0 && decide (0 < weights.getD i 0)).map
    fun i => (weights.getD i 0, means.getD i 0)

/-- The metered mean, none if no tile is metered (R113). -/
def meteredMean (tiles : List (Nat × Nat)) : Option Nat :=
  let total := (tiles.map Prod.fst).sum
  if total = 0 then none else some ((tiles.map fun p => p.1 * p.2).sum / total)

/-- Mt, D, s, MaxStep, Emin, Emax of the EXPOSE words taken, by index (R47). -/
def exposeWord (words : List Nat) (i : Nat) : Nat := words.getD i 0

/-- The new E from the E taken and the metered mean (R114). -/
def stepIndex (words : List Nat) (e mean : Nat) : Nat :=
  let diff : Int := (exposeWord words 0 : Int) - mean
  let size := diff.natAbs
  if size ≤ exposeWord words 1 then e
  else
    let step := min (exposeWord words 3) (max 1 (size / 2 ^ exposeWord words 2))
    let moved : Int := if 0 < diff then (e : Int) + step else (e : Int) - step
    (max (exposeWord words 4 : Int) (min (exposeWord words 5 : Int) moved)).toNat

/-- E is pinned in this update: outside the dead band, at the limit that the mean asked it to pass (R115). -/
def pinnedNow (words : List Nat) (newE mean : Nat) : Bool :=
  let diff : Int := (exposeWord words 0 : Int) - mean
  decide (exposeWord words 1 < diff.natAbs) &&
    ((decide (0 < diff) && newE == exposeWord words 5) || (decide (diff < 0) && newE == exposeWord words 4))

/-- The exposure part: the new E and the new pinned counter (R113 to R115). -/
def exposurePart (words weights means targets : List Nat) (index : Option Nat) (pinned : Nat) : Option Nat × Nat :=
  match meteredMean (meteredTiles weights means targets), index with
  | none, _ => (index, pinned)
  | some _, none => (none, 0)
  | some mean, some e =>
    let newE := stepIndex words e mean
    (some newE, if pinnedNow words newE mean then satAdd 255 pinned 1 else 0)

end Sys2Proof.Machine
end

