-- ==== Sys2Proof/Machine/Glare.lean ====
section
/-! DEFINITION. The frame-end update: publication, what the update takes at its start, the glare part, and the storing
of its results at its completion (chapter 05; R112, R116). -/

namespace Sys2Proof.Machine

open Sys2Proof

/-! ## Publication and the start of an update (R91, R93, R112) -/

/-- The words an update takes at its start, in word order: WEIGHT, GLARE, EXPOSE (R49). -/
def updateWordList : List Nat := weightWordList ++ glareWordList ++ exposeWordList

/-- What an update takes at its start (R93, R112). -/
def SideState.newUpdate (d : SideState) : Update :=
  { glareWords := d.take glareWordList
    exposeWords := d.take exposeWordList
    weights := d.take weightWordList
    zoneLimit := d.settings.zoneLimit
    pinnedFrames := d.settings.pinnedFrames
    night := d.glare.night
    counter := d.glare.counter
    current := d.glare.current
    index := d.exposure.index
    pinned := d.exposure.pinned
    dropped := false
    clamp := none }

/-- Starts a frame-end update: the words are taken with their findings, and the Emin and Emax taken become the limits in
force (R93, R110, R112). -/
def SideState.startUpdate (d : SideState) : SideState :=
  let u := d.newUpdate
  let d1 := d.findFailed updateWordList
  { d1 with
    glare := { d1.glare with update := some u }
    exposure := { d1.exposure with limits := some (exposeWord u.exposeWords 4, exposeWord u.exposeWords 5) } }

/-- The gathering buffer becomes EMPTY (R91). -/
def SideState.discardGathering (d : SideState) : SideState :=
  { d with stats := { d.stats with gathering := .empty } }

/-- A completed frame end: the gathering buffer is published and an update starts, unless an update is in flight; it is
EMPTY afterwards in both cases (R91). -/
def SideState.completedEnd (d : SideState) : SideState :=
  match d.glare.update with
  | some _ => d.discardGathering
  | none =>
    SideState.startUpdate
      { d with
        stats :=
          { gathering := .empty
            published := ⟨true, d.recv.frameNumber, d.frameWidth, d.frameHeight, d.stats.gathering.tiles⟩ } }

/-! ## The glare part (R97 to R103) -/

/-- K, ClipMin, Attack, Release, MaxAtten, NightEnter, NightLeave, NightFrames, AttTab of the GLARE words taken, by
index. -/
def glareWord (words : List Nat) (i : Nat) : Nat := words.getD i 0

/-- The tile means of a published frame of tile area a (R97). -/
def tileMeans (a : Nat) (tiles : List Tile) : List Nat := tiles.map fun t => t.luma / a

/-- The clipped fractions of a published frame (R97). -/
def clippedFractions (a : Nat) (tiles : List Tile) : List Nat := tiles.map fun t => t.clips * 256 / a

/-- The scene mean (R97). -/
def sceneMean (means : List Nat) : Nat := means.sum / Config.tiles

/-- The new night state and night counter (R98). -/
def nightStep (words : List Nat) (state : NightState) (counter mean : Nat) : NightState × Nat :=
  match state with
  | .day =>
    if mean < glareWord words 5 then
      if glareWord words 7 ≤ counter + 1 then (.night, 0) else (.day, counter + 1)
    else (.day, 0)
  | .night =>
    if glareWord words 6 < mean then
      if glareWord words 7 ≤ counter + 1 then (.day, 0) else (.night, counter + 1)
    else (.night, 0)

/-- The own value of a candidate with clipped fraction q (R99). -/
def ownValue (words : List Nat) (q : Nat) : Nat := glareWord words (8 + min 7 (q / 32))

/-- The own value of each tile that is a candidate, none for the others; in DAY there is none (R99). -/
def candidates (words : List Nat) (state : NightState) (fractions : List Nat) : List (Option Nat) :=
  fractions.map fun q =>
    if state = .night ∧ glareWord words 1 ≤ q then some (ownValue words q) else none

/-- Tiles (i, j) and (k, l) are neighbours (R100). -/
def neighbours (i j k l : Nat) : Bool :=
  decide (i ≤ k + 1) && decide (k ≤ i + 1) && decide (j ≤ l + 1) && decide (l ≤ j + 1) && !(i == k && j == l)

/-- The target of tile idx: the largest of its own value and half of each candidate neighbour's, limited to MaxAtten
(R100). -/
def tileTarget (words : List Nat) (cands : List (Option Nat)) (idx : Nat) : Nat :=
  let own := (cands.getD idx none).getD 0
  let halves := cands.zipIdx.map fun (c, k) =>
    if neighbours (idx % 16) (idx / 16) (k % 16) (k / 16) then c.getD 0 / 2 else 0
  min (glareWord words 4) (halves.foldl max own)

/-- The target map (R100). -/
def targetMap (words : List Nat) (cands : List (Option Nat)) : List Nat :=
  (List.range Config.tiles).map (tileTarget words cands)

/-- One step of a tile's current value toward its target (R101). -/
def rampStep (words : List Nat) (current target : Nat) : Nat :=
  if current < target then min target (current + glareWord words 2)
  else if target < current then max target (current - glareWord words 3)
  else current

/-- The new current map (R101). -/
def rampMap (words current target : List Nat) : List Nat :=
  (List.range Config.tiles).map fun i => rampStep words (current.getD i 0) (target.getD i 0)

/-- The zone count: the tiles whose target is above 0 (R102). -/
def zoneCountOf (target : List Nat) : Nat := (target.filter fun t => decide (0 < t)).length

/-- The results of a frame-end update: the glare part, then the exposure part (R93). -/
structure UpdateResult where
  night : NightState
  counter : Nat
  target : List Nat
  current : List Nat
  zoneCount : Nat
  glareWide : Bool
  index : Option Nat
  pinned : Nat
  exposurePinned : Bool

/-- Computes the results of an update from the published buffer and the values it took (R97 to R103, R113 to R115). -/
def Update.result (u : Update) (p : Published) : UpdateResult :=
  let a := tileArea p.width p.height
  let means := tileMeans a p.tiles
  let (state, counter) := nightStep u.glareWords u.night u.counter (sceneMean means)
  let target := targetMap u.glareWords (candidates u.glareWords state (clippedFractions a p.tiles))
  let current := rampMap u.glareWords u.current target
  let zone := zoneCountOf target
  let (index, pinned) := exposurePart u.exposeWords u.weights means target u.index u.pinned
  { night := state, counter := counter, target := target, current := current, zoneCount := zone
    glareWide := decide (u.zoneLimit < zone), index := index, pinned := pinned
    exposurePinned := decide (u.pinnedFrames ≤ pinned) }

/-- A map value limited by the swap taken while the update was in flight (R65, R95). -/
def Update.limitMap (u : Update) (m : List Nat) : List Nat :=
  match u.clamp with
  | none => m
  | some c => clampMap c.maxAtten m

/-- A new E limited by the swap taken while the update was in flight (R65, R116). -/
def Update.limitIndex (u : Update) (e : Option Nat) : Option Nat :=
  match u.clamp with
  | none => e
  | some c => e.map (clampInto c.emin c.emax)

/-- An update stores its results: maps, night state, zone count, GLARE_WIDE, the next map with its knee and its ready
flag, then E, the pinned counter and EXPOSURE_PINNED, and the command logic runs (R95, R109, R116). -/
def SideState.storeResult (d : SideState) (u : Update) : SideState :=
  let r := u.result d.stats.published
  let exposure := { d.exposure with index := u.limitIndex r.index, pinned := r.pinned }
  { d with
    glare :=
      { night := r.night, counter := r.counter, target := u.limitMap r.target, current := u.limitMap r.current
        next := u.limitMap r.current, nextKnee := glareWord u.glareWords 0, zoneCount := r.zoneCount
        update := none }
    pipe := { d.pipe with nextReady := true }
    exposure := exposure.commandLogic
    cond := { d.cond with glareWide := r.glareWide, exposurePinned := r.exposurePinned } }

/-- The completion of an update: it stores its results unless they were dropped, and is no longer in flight (R95, R96,
R65). -/
def SideState.completeUpdate (d : SideState) (u : Update) : SideState :=
  if u.dropped then { d with glare := { d.glare with update := none } } else d.storeResult u

/-- FRAME_END_UPDATE_COMPLETION (R95): the changes to GLARE_WIDE and EXPOSURE_PINNED are one change of the vector. With
no update in flight, or while RESET is held low, nothing happens (log 1). -/
def execFrameEndUpdateCompletion (x : Side) (s : State) : Host.Outcome State Fault Refusal :=
  if s.resetHeld then .next s
  else
    match (s.side x).glare.update with
    | none => .next s
    | some u => .next (settle (s.onSide x (·.completeUpdate u)) x (s.side x).cond)

/-- COMMAND_LANE_TX_COMPLETION (R118). -/
def execCommandLaneTxCompletion (x : Side) (s : State) : Host.Outcome State Fault Refusal :=
  if s.resetHeld then .next s
  else .next (s.onSide x fun d => { d with exposure := d.exposure.complete })

end Sys2Proof.Machine
end

