-- ==== Sys2Proof/Machine/Tables.lean ====
section
/-! DEFINITION. The Table Store at work: the taking of DEVELOP, SHADE and TONE, the swap, the scrubber, COPY BANK and
COMMIT BANK in flight, and parity failures (chapter 03). -/

namespace Sys2Proof.Machine

open Sys2Proof

/-! ## The frame size in use (R49, R64) -/

/-- Clears the frame-dependent state of a side; w is the width of the last-good-line buffer from here on (R64). -/
def SideState.clearFrameDependent (d : SideState) (w : Nat) : SideState :=
  { d with
    stats := { gathering := .empty, published := .empty }
    glare := { d.glare with target := zeroMap, current := zeroMap, next := zeroMap }
    pipe := { d.pipe with map := zeroMap }
    recv := { d.recv with lastGood := List.replicate w Rgb.black, freeze := 0, prevSignature := none } }

/-- A frame-end update in flight is to complete without storing its results (R65, R96). -/
def SideState.dropUpdate (d : SideState) : SideState :=
  { d with glare := { d.glare with update := d.glare.update.map fun u => { u with dropped := true } } }

/-- An update in flight is to be limited by the swap just taken (R65). -/
def SideState.limitUpdate (d : SideState) (c : SwapLimits) : SideState :=
  { d with glare := { d.glare with update := d.glare.update.map fun u => { u with clamp := some c } } }

/-- The frame size in use is renewed. -/
def SideState.setFrameSize (d : SideState) (w h : Nat) : SideState :=
  { d with store := { d.store with frameSize := some (w, h) } }

/-- A taking of DEVELOP outside a swap renews the frame size in use; a size that differs from one that is present first
clears the frame-dependent state and drops an update in flight (R49). -/
def SideState.renewSize (d : SideState) (w h : Nat) : SideState :=
  match d.store.frameSize with
  | none => d.setFrameSize w h
  | some size =>
    if size = (w, h) then d.setFrameSize w h
    else ((d.clearFrameDependent w).dropUpdate).setFrameSize w h

/-- The 491 values that a frame start takes (R49). -/
def SideState.developValues (d : SideState) : FrameValues := d.take frameWordList

/-- DEVELOP, SHADE and TONE are taken at a frame start: the findings, and the frame size in use (R49, R50). -/
def SideState.takeDevelop (d : SideState) : SideState :=
  (d.findFailed frameWordList).renewSize d.developValues.width d.developValues.height

/-! ## The swap (R61 to R66) -/

/-- Order 1 of a swap: the banks change roles and the bookkeeping is renewed (R62). -/
def SideState.exchangeBanks (d : SideState) : SideState :=
  { d with
    store :=
      { d.store with
        active := some d.store.shadow
        commitPending := false
        scrub := 0
        parity := .empty }
    cond := { d.cond with tableParity := false, noTables := false } }

/-- What a swap takes: W, H, MaxAtten, Emin, Emax and Einit (R49). -/
structure SwapValues where
  width : Nat
  height : Nat
  maxAtten : Nat
  emin : Nat
  emax : Nat
  einit : Nat

/-- The E that Einit gives: a failed word's substitute 0 is brought into the limits given, a good word is handed on as
it stands (R111). -/
def initialIndex (word : TableWord) (limits : Option (Nat × Nat)) : Nat :=
  if word.failed then
    match limits with
    | none => 0
    | some (lo, hi) => clampInto lo hi 0
  else word.value.toNat

/-- The values a swap takes from the new active bank; Einit serves only an E that is unset (R63, R111; log 35). -/
def SideState.swapValues (d : SideState) : SwapValues :=
  let b := d.store.activeBank
  let emin := (b.read 703).used 703
  let emax := (b.read 704).used 704
  { width := (b.read 0).used 0
    height := (b.read 1).used 1
    maxAtten := (b.read 687).used 687
    emin := emin
    emax := emax
    einit := initialIndex (b.read 705) (some (emin, emax)) }

/-- Order 3 of a swap: the maps are clamped to MaxAtten, E is clamped or set to Einit, the limits in force are renewed
and the command logic runs (R63, R110). -/
def SideState.clampToBank (d : SideState) (v : SwapValues) : SideState :=
  let index :=
    match d.exposure.index with
    | some e => clampInto v.emin v.emax e
    | none => v.einit
  let exposure := { d.exposure with index := some index, limits := some (v.emin, v.emax) }
  { d with
    glare :=
      { d.glare with
        target := clampMap v.maxAtten d.glare.target
        current := clampMap v.maxAtten d.glare.current
        next := clampMap v.maxAtten d.glare.next }
    pipe := { d.pipe with map := clampMap v.maxAtten d.pipe.map }
    exposure := exposure.commandLogic }

/-- Order 4 of a swap: a size that differs from the one in use, or is the first, clears the frame-dependent state and
drops an update in flight; else the update is to be limited (R64, R65). -/
def SideState.swapSize (d : SideState) (v : SwapValues) : SideState :=
  if d.store.frameSize = some (v.width, v.height) then d.limitUpdate ⟨v.maxAtten, v.emin, v.emax⟩
  else ((d.clearFrameDependent v.width).dropUpdate).setFrameSize v.width v.height

/-- The swap of a side, orders 1 to 4 (R62 to R64). A failed Einit is a finding at every swap, also with E set: the
model's choice (log 35). -/
def SideState.swap (d : SideState) : SideState :=
  let d1 := d.exchangeBanks
  let v := d1.swapValues
  ((d1.findFailed swapWordList).clampToBank v).swapSize v

/-- A swap occasion: a pending commit swaps, a report becomes pending, and the changes to TABLE_PARITY and NO_TABLES
reach the groups as one change (R61, R62, R66). -/
def swapIfPending (s : State) (x : Side) : State :=
  if (s.side x).store.commitPending then
    settle (markReports (s.onSide x SideState.swap) x) x (s.side x).cond
  else s

/-! ## The scrubber (R52) -/

/-- The words of the batch that begins at a cursor, 128 of them with wrap from 705 to 0, in word order. -/
def scrubWords (cursor : Nat) : List Nat :=
  (List.range Config.bankWords).filter fun w =>
    decide ((w + Config.bankWords - cursor) % Config.bankWords < Config.scrubBatch)

/-- One scrub batch; with no active bank nothing is checked and the cursor stays (R52). -/
def SideState.scrubBatch (d : SideState) : SideState :=
  match d.store.active with
  | none => d
  | some _ =>
    let d1 := d.findFailed (scrubWords d.store.scrub)
    { d1 with store := { d1.store with scrub := (d.store.scrub + Config.scrubBatch) % Config.bankWords } }

/-- The scrubber's batch after an egress frame end, its change of TABLE_PARITY evaluated (R51, R52). -/
def scrub (s : State) (x : Side) : State := settle (s.onSide x SideState.scrubBatch) x (s.side x).cond

/-! ## COPY BANK in flight (R56, R57) -/

/-- The copy of one word: the active word is read with a parity check, the value used is written to the shadow, and
progress advances (R56). -/
def SideState.copyStep (d : SideState) (op : Operation) : SideState :=
  let w := op.progress
  let word := d.store.activeBank.read w
  let d1 := d.findFailed [w]
  let store := d1.store.onBank d1.store.shadow fun b => b.write w (BitVec.ofNat 16 (word.used w))
  { d1 with
    store := { store with op := some { op with progress := w + 1, failure := op.failure || word.failed } } }

/-- The copy in flight takes its next word; with no copy in flight, or with every word copied, nothing happens. -/
def SideState.copyNext (d : SideState) : SideState :=
  match d.store.op with
  | some op =>
    match op.kind with
    | .copy => if op.progress < Config.bankWords then d.copyStep op else d
    | .check _ => d
  | none => d

/-- The copy in flight takes a number of words. -/
def SideState.copyMany : Nat → SideState → SideState
  | 0, d => d
  | n + 1, d => SideState.copyMany n d.copyNext

/-- The result of a copy (R57). -/
def copyResult (op : Operation) : Response := if op.failure then .refused .parity else .done

/-- No operation is in flight any more. -/
def SideState.endOp (d : SideState) : SideState := { d with store := { d.store with op := none } }

/-! ## COMMIT BANK check in flight (R59, R60) -/

/-- The check of one word of the shadow (R59). -/
def Store.checkStep (t : Store) (op : Operation) : Operation :=
  let w := op.progress
  let word := (t.bank t.shadow).read w
  { op with
    progress := w + 1
    failure := op.failure || word.failed
    sum := op.sum + word.value
    invalid := op.invalid.orElse fun _ =>
      if wordValid (t.bank t.shadow) w then none else some (wordTable w, wordIndex w) }

/-- The check in flight reads its next word; with no check in flight, or with every word read, nothing happens. -/
def Store.checkNext (t : Store) : Store :=
  match t.op with
  | some op =>
    match op.kind with
    | .check _ => if op.progress < Config.bankWords then { t with op := some (t.checkStep op) } else t
    | .copy => t
  | none => t

/-- The check in flight reads a number of words. -/
def Store.checkMany : Nat → Store → Store
  | 0, t => t
  | n + 1, t => Store.checkMany n t.checkNext

/-- The result of a check, the first finding that applies (R60). -/
def checkResult (op : Operation) (expected : Half) : Response :=
  if op.failure then .refused .parity
  else if op.sum ≠ expected then .refused .checksum
  else
    match op.invalid with
    | some (t, i) => .refused (.invalid t i)
    | none => .accepted

/-! ## Commands -/

/-- COPY_WORD (R56): the finding of a failed word is evaluated at that moment. Nothing happens with no copy in flight,
with every word copied, or while RESET is held low (log 1). -/
def execCopyWord (x : Side) (s : State) : Host.Outcome State Fault Refusal :=
  if s.resetHeld then .next s
  else .next (settle (s.onSide x SideState.copyNext) x (s.side x).cond)

/-- CHECK_WORD (R59). Nothing happens with no check in flight, with every word read, or while RESET is held low (log
1). -/
def execCheckWord (x : Side) (s : State) : Host.Outcome State Fault Refusal :=
  if s.resetHeld then .next s
  else .next (s.onSide x fun d => { d with store := d.store.checkNext })

/-- COPY_COMPLETION (R57): the words not yet copied are copied (log 12), the operation in flight becomes NONE and the
response fills the slot reserved on the link it was taken from. With no copy in flight nothing happens (log 1). -/
def execCopyCompletion (x : Side) (s : State) : Host.Outcome State Fault Refusal :=
  if s.resetHeld then .next s
  else
    match (s.side x).store.op with
    | some op =>
      match op.kind with
      | .copy =>
        let d := (s.side x).copyMany (Config.bankWords - op.progress)
        let s1 := settle (s.onSide x fun _ => d.endOp) x (s.side x).cond
        .next (s1.onLink op.link (·.fill (copyResult (d.store.op.getD op))))
      | .check _ => .next s
    | none => .next s

/-- CHECK_COMPLETION (R60): the words not yet read are read (log 12), the operation in flight becomes NONE and the
response fills the slot reserved on the link it was taken from; ACCEPTED leaves the commit pending. With no check in
flight nothing happens (log 1). -/
def execCheckCompletion (x : Side) (s : State) : Host.Outcome State Fault Refusal :=
  if s.resetHeld then .next s
  else
    match (s.side x).store.op with
    | some op =>
      match op.kind with
      | .check expected =>
        let t := (s.side x).store.checkMany (Config.bankWords - op.progress)
        let r := checkResult (t.op.getD op) expected
        let accepted := decide (r = .accepted)
        .next ((s.onSide x fun d =>
          { d with store := { d.store with op := none, commitPending := d.store.commitPending || accepted } }).onLink
            op.link (·.fill r))
      | .copy => .next s
    | none => .next s

/-- PARITY_FAILURE (R48): the word struck holds the value given and is failed until it is written again; nothing else
changes, and no finding is made until a reader meets the word. While RESET is held low every word keeps its reset value
(R200, log 25). -/
def execParityFailure (x : Side) (bank : BankId) (word : Fin 706) (value : Half) (s : State) :
    Host.Outcome State Fault Refusal :=
  if s.resetHeld then .next s
  else
    .next (s.onSide x fun d =>
      { d with store := d.store.onBank bank fun b => b.strike word.val value })

end Sys2Proof.Machine
end

