-- ==== Sys2Proof/Machine/Camera.lean ====
section
/-! DEFINITION. The Camera Receiver and the frame-start capture: the cells of a camera link's forward lane, the lines
of a cell one at a time, the frame end, the abandonment, and the cells held while a line waits (chapter 01; R30, R31;
R174; R213). -/

namespace Sys2Proof.Machine

open Sys2Proof

/-! ## Frame-start capture (R30, R31) -/

/-- A capture makes a measurement: a reference is present and the divider count reaches D. -/
def Timing.measures (t : Timing) (divider : Nat) : Bool := t.reference.isSome && decide (divider ≤ t.divider + 1)

/-- The interval a measurement gives: the elapsed time from the reference, divided by D and floored. -/
def Timing.measured (t : Timing) (now : Time) (divider : Nat) : Nat := elapsed (t.reference.getD now) now / divider

/-- The capture at an accepted frame start (R30), with the flags of a measurement (R31). -/
def Timing.capture (t : Timing) (now : Time) (divider : Nat) : Timing :=
  match t.reference with
  | none => { t with last := now, reference := some now, divider := 0 }
  | some _ =>
    if t.measures divider then
      { last := now
        reference := some now
        divider := 0
        interval := some (t.measured now divider)
        unread := true
        overrun := t.overrun || t.unread }
    else { t with last := now, divider := t.divider + 1 }

/-- An interval differs from NominalInterval by more than IntervalTolerance (R31). -/
def Settings.intervalBad (k : Settings) (interval : Nat) : Bool :=
  decide (k.intervalTolerance < ((interval : Int) - k.nominalInterval).natAbs)

/-- FRAME_INTERVAL after a capture: judged at a measurement and kept otherwise (R31). -/
def SideState.intervalJudged (d : SideState) (now : Time) : Bool :=
  if d.timing.measures d.settings.captureDivider then
    d.settings.intervalBad (d.timing.measured now d.settings.captureDivider)
  else d.cond.frameInterval

/-- The reference capture time becomes absent and the divider count 0 (R33). -/
def Timing.dropReference (t : Timing) : Timing := { t with reference := none, divider := 0 }

/-! ## Frame end (R17 to R20) -/

/-- The judgement of the counts, LINE_CRC and LINE_MISSING (R18). -/
def SideState.judgeCounts (d : SideState) : SideState :=
  { d with
    cond :=
      { d.cond with
        lineCrc := decide (d.settings.crcMax < d.recv.damaged)
        lineMissing := decide (d.settings.missingMax < d.recv.missing) } }

/-- The frame that ends repeats the frame before, by its signature or by its number (R19). -/
def Receiver.repeats (r : Receiver) : Bool :=
  decide (r.prevSignature = some r.signature) || decide (r.prevFrame = some r.frameNumber)

/-- The freeze counter after a frame end (R19). -/
def Receiver.freezeNext (r : Receiver) : Nat := if r.repeats then satAdd 255 r.freeze 1 else 0

/-- The comparison of the signature, FROZEN, and the previous signature and frame number (R19). -/
def SideState.judgeFreeze (d : SideState) : SideState :=
  { d with
    recv :=
      { d.recv with
        freeze := d.recv.freezeNext
        prevSignature := some d.recv.signature
        prevFrame := some d.recv.frameNumber }
    cond := { d.cond with frozen := decide (d.settings.freezeFrames ≤ d.recv.freezeNext) } }

/-- The receiver takes a state. -/
def SideState.setRecv (d : SideState) (r : RecvState) : SideState := { d with recv := { d.recv with state := r } }

/-- The side after the frame-end processing of an explicit or implicit end, its lines filled already (R18 to R20). -/
def SideState.closeFrame (d : SideState) : SideState := (d.judgeCounts.judgeFreeze.completedEnd).setRecv .waitStart

/-- The frame-end processing of an explicit or implicit end, once the lines it fills have been delivered: judge,
publish, one change of the vector, the guard, and the FRAME END handed over (R18 to R20). -/
def endFrame (s : State) (x : Side) : State :=
  handFollowEnd (guardFrameEnd (settle (s.onSide x SideState.closeFrame) x (s.side x).cond) x) x

/-! ## FRAME START (R3 to R7, R213) -/

/-- The changes of an acceptance to the side (R7, R30, R31, R34, R121, R165): its conditions are one change. -/
def SideState.accept (d : SideState) (now : Time) (number : Byte) (values : FrameValues) : SideState :=
  { d with
    recv :=
      { d.recv with
        state := .receiving, expected := 0, frameNumber := number, damaged := 0, missing := 0, discarded := 0
        signature := 0 }
    timing := d.timing.capture now d.settings.captureDivider
    frameTimer := some now
    periodTimer := none
    standaloneDue := false
    pipe := { d.pipe with values := some values }
    exposure := d.exposure.frameStart d.settings.ackFrames
    cond :=
      { d.cond with
        linkLoss := false
        format := false
        frameInterval := d.intervalJudged now
        cameraNoAck := d.cond.cameraNoAck || d.exposure.timesOut d.settings.ackFrames }
    source := .follow }

/-- A rejection for the format: FORMAT true, DISCARDING (R6). -/
def SideState.rejectFormat (d : SideState) : SideState :=
  { d.setRecv .discarding with cond := { d.cond with format := true } }

/-- What every egress frame start does after the last evaluation: the guard's step, the pipeline takes m and any ready
next map, and the FRAME START is built (R173, R213). -/
def startEgress (s : State) (x : Side) (src : Source) (w h : Nat) (colour : Rgb) : State :=
  beginEgressFrame ((guardStep s x).onSide x SideState.takeInUse) x src w h colour

/-- An accepted FRAME START, its values already taken; before is the vector the acceptance's change is judged against
(R7, R167, R213). -/
def acceptFrame (s : State) (x : Side) (before : Conditions) (number : Byte) (values : FrameValues) : State :=
  let s1 := s.onSide x fun d => d.accept s.timeBase number values
  let s2 := s1.onLink x (·.handEnd .standalone)
  startEgress (settle s2 x before) x .follow values.width values.height Rgb.black

/-- Steps 3 and 4 of R4: the cell is rejected with no active bank (R5), rejected for its size (R6), or accepted. -/
def judgeStart (s : State) (x : Side) (body : List Byte) : State :=
  let d := s.side x
  match d.store.active with
  | none => s.onSide x (·.setRecv .discarding)
  | some _ =>
    let values := d.developValues
    let s1 := s.onSide x SideState.takeDevelop
    if fsWidth body = values.width ∧ fsHeight body = values.height then
      acceptFrame s1 x d.cond (fsNumber body) values
    else settle (s1.onSide x SideState.rejectFormat) x d.cond

/-! ## LINE (R8 to R14) -/

/-- A LINE cell is discarded and counted (R11, R14). -/
def SideState.countDiscarded (d : SideState) : SideState :=
  { d with recv := { d.recv with discarded := satAdd 65535 d.recv.discarded 1 } }

/-- The damaged count is incremented (R12, R13). -/
def SideState.countDamaged (d : SideState) : SideState :=
  { d with recv := { d.recv with damaged := d.recv.damaged + 1 } }

/-- The expected line becomes n. -/
def SideState.expect (d : SideState) (n : Nat) : SideState := { d with recv := { d.recv with expected := n } }

/-- A good LINE cell of line k, the lines before it delivered: line k is developed from the payload (R9, R10). -/
def SideState.ownLine (d : SideState) (body : List Byte) : SideState × OutLine :=
  let (d1, line) := d.payload (lineNumber body) (linePixels body) (cellCrc body)
  (d1.expect (lineNumber body + 1), line)

/-- A damaged LINE cell stands for line n: developed under ACCEPT if its length is right, else concealed (R12, R13). -/
def SideState.damagedLine (d : SideState) (body : List Byte) : SideState × OutLine :=
  let n := d.recv.expected
  let (d1, line) :=
    if d.settings.lineCrcPolicy = .accept ∧ lineLengthOk d.frameWidth body = true then
      d.payload n (linePixels body) (cellCrc body)
    else d.conceal n
  (d1.countDamaged.expect (n + 1), line)

/-- The last line of a cell is handed on: the side is as its development leaves it, and the line is delivered. -/
def handLast (s : State) (x : Side) (own : SideState × OutLine) : State :=
  deliver (s.onSide x fun _ => own.1) x own.2 .handled

/-! ## Lines filled one at a time (R1, R10, R17, R21, R67, R174) -/

/-- Lines y, y + 1, …, count of them, are filled, each developed when the one before it has been delivered, until one
has to wait; after gives what its delivery leaves to be done, by the number of the line behind it. -/
def fillLines (x : Side) (after : Nat → After) : Nat → Nat → State → State
  | 0, _, s => s
  | count + 1, y, s =>
    let line := ((s.side x).fillLine y).2
    let s1 := deliver (s.onSide x fun d => (d.fillLine y).1) x line (after (y + 1))
    if waits s1 x then s1 else fillLines x after count (y + 1) s1

/-- Lines y to stop - 1 are filled and then the rest of the work is done; when a line has to wait, the work stops there
until that line has been delivered (R174). -/
def fillThen (s : State) (x : Side) (after : Nat → After) (y stop : Nat) (finish : State → State) : State :=
  let s1 := fillLines x after (stop - y) y s
  if waits s1 x then s1 else finish s1

/-- A cell fills the lines before this one: a LINE cell those before its own line, a FRAME START or a FRAME END the rest
of the frame (R4, R10, R17). -/
def SideState.fillStop (d : SideState) (c : CameraCell) : Nat :=
  match c.kind with
  | .line => lineNumber c.body
  | .frameStart => d.frameHeight
  | .frameEnd => d.frameHeight
  | .status => 0

/-- What a cell does once the lines that it fills have been delivered: a LINE cell develops its own line (R10), a FRAME
END runs the frame-end processing (R17), a FRAME START does so and goes on with the steps 2 to 4 of R4. -/
def finishCell (s : State) (x : Side) (c : CameraCell) : State :=
  match c.kind with
  | .line => handLast s x ((s.side x).ownLine c.body)
  | .frameEnd => endFrame s x
  | .frameStart => judgeStart (swapIfPending (endFrame s x) x) x c.body
  | .status => s

/-- The handling of a cell from line y on. -/
def handleFrom (s : State) (x : Side) (c : CameraCell) (y : Nat) : State :=
  fillThen s x (fun y => .cell y c) y ((s.side x).fillStop c) fun s1 => finishCell s1 x c

/-! ## Abandonment (R21, R27) -/

/-- The end of an abandonment of the frame in progress, its lines filled already: the gathering statistics are
discarded, the receiver goes to WAIT_START, and the FRAME END is handed over (R21, R91). -/
def endAbandoned (s : State) (x : Side) : State :=
  handFollowEnd (s.onSide x fun d => d.discardGathering.setRecv .waitStart) x

/-- What a SIDE RESTART leaves of the frame in progress from line y on, with the values in use (R88; log 6). -/
def SideState.remainder (d : SideState) (y : Nat) : Remainder :=
  ⟨d.pipe.inUse, d.pipe.shaping, d.recv.lastGood, y, d.frameHeight⟩

/-- The abandonment that a SIDE RESTART makes of a frame in progress (R27, R196): it ends at once, and lines that find
no room in the egress line buffer are left to follow (log 6). With no frame in progress nothing changes. -/
def abandonFrame (s : State) (x : Side) : State :=
  let d := s.side x
  let n := d.recv.expected
  if d.recv.state = .receiving then
    endAbandoned (fillLines x (fun y => .abandoned (d.remainder y)) (d.frameHeight - n) n s) x
  else s

/-- The lines that a SIDE RESTART has left, count of them, are developed and delivered one at a time, until one has to
wait (R67, R88, R174; log 6). -/
def deliverRemainder (x : Side) : Nat → Remainder → State → State
  | 0, _, s => s
  | count + 1, r, s =>
    let s1 := deliver s x r.line (.abandoned r.advance)
    if waits s1 x then s1 else deliverRemainder x count r.advance s1

/-! ## The cells (R3 to R17) -/

/-- A FRAME START: a damaged one is discarded (R3); an undamaged one ends a frame in progress first (R4). -/
def takeFrameStart (s : State) (x : Side) (body : List Byte) : State :=
  if cellGood 0x01 8 body then
    if (s.side x).recv.state = .receiving then handleFrom s x ⟨.frameStart, body⟩ (s.side x).recv.expected
    else judgeStart (swapIfPending s x) x body
  else s

/-- A LINE cell: discarded in WAIT_START and DISCARDING (R8), and in RECEIVING handled as R9 to R14 state. -/
def takeLine (s : State) (x : Side) (body : List Byte) : State :=
  let d := s.side x
  let n := d.recv.expected
  if d.recv.state ≠ .receiving then s
  else if d.frameHeight ≤ n then s.onSide x SideState.countDiscarded
  else if crcChecks 0x02 body && lineLengthOk d.frameWidth body then
    if lineNumber body < n ∨ d.frameHeight ≤ lineNumber body then s.onSide x SideState.countDiscarded
    else handleFrom s x ⟨.line, body⟩ n
  else handLast s x (d.damagedLine body)

/-- A FRAME END, by the receiver state (R17). -/
def takeFrameEnd (s : State) (x : Side) (body : List Byte) : State :=
  if cellGood 0x03 3 body then
    match (s.side x).recv.state with
    | .receiving => handleFrom s x ⟨.frameEnd, body⟩ (s.side x).recv.expected
    | .discarding => s.onSide x (·.setRecv .waitStart)
    | .waitStart => s
  else s

/-! ## CAMERA STATUS (R22 to R25, R122) -/

/-- CAMERA_FAULT and TEMP_HIGH are judged against the camera status record (R25). -/
def SideState.judgeCamera (d : SideState) : SideState :=
  { d with
    cond :=
      { d.cond with
        cameraFault := d.status.valid && (d.status.faults &&& d.settings.cameraFaultMask != 0)
        tempHigh := d.status.valid && decide (d.settings.tempLimit < d.status.temperature.toInt) } }

/-- STATUS_CKSUM takes a value. -/
def SideState.setCksum (d : SideState) (v : Bool) : SideState := { d with cond := { d.cond with statusCksum := v } }

/-- A CAMERA STATUS cell is stored, and CAMERA_FAULT and TEMP_HIGH are judged (R23, R24, R25). -/
def SideState.storeStatus (d : SideState) (body : List Byte) (damaged : Bool) : SideState :=
  SideState.judgeCamera ({ d with status := statusFields body damaged }.setCksum damaged)

/-- An undamaged status cell is handed to the Exposure Unit (R122). -/
def SideState.handStatus (d : SideState) (tag : BitVec 4) : SideState :=
  if d.exposure.acknowledges tag then
    { d with exposure := d.exposure.acknowledge, cond := { d.cond with cameraNoAck := false } }
  else d

/-- A CAMERA STATUS cell (R23, R24). -/
def SideState.statusCell (d : SideState) (body : List Byte) : SideState :=
  if cellGood 0x04 10 body then (d.storeStatus body false).handStatus (statusFields body false).tag
  else if d.settings.statusStore = .always ∧ body.length + 1 = 10 then d.storeStatus body true
  else d.setCksum true

/-- A CAMERA STATUS cell is taken; its changes are one change of the vector (R25, R130). -/
def takeStatus (s : State) (x : Side) (body : List Byte) : State :=
  settle (s.onSide x (·.statusCell body)) x (s.side x).cond

/-! ## Cells in order (R1, R174) -/

/-- The receiver takes a cell. -/
def takeCell (s : State) (x : Side) (c : CameraCell) : State :=
  match c.kind with
  | .frameStart => takeFrameStart s x c.body
  | .line => takeLine s x c.body
  | .frameEnd => takeFrameEnd s x c.body
  | .status => takeStatus s x c.body

/-- The link layer holds a cell behind those it holds already (R174). -/
def holdCell (s : State) (x : Side) (c : CameraCell) : State :=
  s.onSide x fun d => { d with recv := { d.recv with held := d.recv.held ++ [c] } }

/-- A cell arrives: it is taken, or held while a line of the side waits (R174). -/
def arrive (s : State) (x : Side) (c : CameraCell) : State :=
  if waits s x then holdCell s x c else takeCell s x c

/-- Cells arrive in order. -/
def arriveAll (s : State) (x : Side) : List CameraCell → State
  | [] => s
  | c :: rest => arriveAll (arrive s x c) x rest

/-- The link layer holds no cell any more. -/
def SideState.releaseHeld (d : SideState) : SideState := { d with recv := { d.recv with held := [] } }

/-- The cells held are taken in order, until a line waits again; those behind it stay held (R174). -/
def takeHeld (s : State) (x : Side) : State :=
  arriveAll (s.onSide x SideState.releaseHeld) x (s.side x).recv.held

/-! ## Commands -/

/-- CAMERA_FRAME_START (R3 to R7). -/
def execCameraFrameStart (x : Side) (body : List Byte) (s : State) : Host.Outcome State Fault Refusal :=
  if s.resetHeld then .next s else .next (arrive s x ⟨.frameStart, body⟩)

/-- CAMERA_LINE (R8 to R14). -/
def execCameraLine (x : Side) (body : List Byte) (s : State) : Host.Outcome State Fault Refusal :=
  if s.resetHeld then .next s else .next (arrive s x ⟨.line, body⟩)

/-- CAMERA_FRAME_END (R17). -/
def execCameraFrameEnd (x : Side) (body : List Byte) (s : State) : Host.Outcome State Fault Refusal :=
  if s.resetHeld then .next s else .next (arrive s x ⟨.frameEnd, body⟩)

/-- CAMERA_STATUS (R23, R24). -/
def execCameraStatus (x : Side) (body : List Byte) (s : State) : Host.Outcome State Fault Refusal :=
  if s.resetHeld then .next s else .next (arrive s x ⟨.status, body⟩)

/-- CAMERA_UNKNOWN_KIND_CELL (R1): the cell is discarded, damaged or not. -/
def execCameraUnknownKindCell (_x : Side) (_kind : Byte) (_body : List Byte) (s : State) :
    Host.Outcome State Fault Refusal := .next s

end Sys2Proof.Machine
end

