-- ==== Sys2Proof/Machine/Timers.lean ====
section
/-! DEFINITION. The expiries of the four kinds of timers and the standalone frame start (chapter 02; R165 to R168; R214,
R215). -/

namespace Sys2Proof.Machine

open Sys2Proof

/-! ## Frame timeout (R34, R35, R215) -/

/-- The frame timeout of a side expires now: it is due, and no line of the side waits, so that no handling of a cell
and no earlier expiry is unfinished (R21, R34). -/
def frameTimeoutEnabled (s : State) (x : Side) : Bool := frameTimeoutDue s x && !waits s x

/-- The changes of the expiry to the side, before the evaluation (R33, R34, R35, R124). -/
def SideState.loseLink (d : SideState) : SideState :=
  { d with
    frameTimer := none
    timing := d.timing.dropReference
    exposure := d.exposure.linkLoss
    cond := { d.cond with linkLoss := true, cameraNoAck := false } }

/-- The source becomes STANDALONE, and the first standalone frame start is due (R36, R165). -/
def SideState.goStandalone (d : SideState) : SideState := { d with source := .standalone, standaloneDue := true }

/-- Orders 2 and 3 of R215: the change of the conditions is evaluated, and then the source becomes STANDALONE. -/
def linkLost (s : State) (x : Side) : State :=
  (settle (s.onSide x SideState.loseLink) x (s.side x).cond).onSide x SideState.goStandalone

/-- An expiry that finds a frame in progress, from line y of its abandonment on: orders 2 and 3 of R215 come when all
the filled lines have been delivered and the FRAME END has been handed over. -/
def expireFrom (s : State) (x : Side) (y : Nat) : State :=
  fillThen s x .expiry y (s.side x).frameHeight fun s1 => linkLost (endAbandoned s1 x) x

/-- The expiry of a frame timeout, in the order of R215. -/
def expireFrameTimeout (s : State) (x : Side) : State :=
  if (s.side x).recv.state = .receiving then expireFrom s x (s.side x).recv.expected else linkLost s x

/-- FRAME_TIMEOUT_EXPIRY (R35): nothing happens unless the expiry is due and can be taken (log 1). -/
def execFrameTimeoutExpiry (x : Side) (s : State) : Host.Outcome State Fault Refusal :=
  if s.resetHeld then .next s
  else if frameTimeoutEnabled s x then .next (expireFrameTimeout s x) else .next s

/-! ## Standalone frames (R36 to R38, R166, R214) -/

/-- STANDALONE_PERIOD_EXPIRY (R37): the timer stops and the next standalone frame start is due, which takes place when
no egress frame of the side is in progress (log 11). Nothing happens unless the expiry is due (log 1). -/
def execStandalonePeriodExpiry (x : Side) (s : State) : Host.Outcome State Fault Refusal :=
  if s.resetHeld then .next s
  else if periodDue s x then .next (s.onSide x fun d => { d with periodTimer := none, standaloneDue := true })
  else .next s

/-- A standalone frame start can take place: it is due, the source is STANDALONE and no egress frame of the side is in
progress (R36, R37). -/
def standaloneEnabled (s : State) (x : Side) : Bool :=
  let d := s.side x
  d.standaloneDue && decide (d.source = .standalone) && (s.link x).frames.isEmpty

/-- The size of a standalone frame: that of the active bank, or 640 by 480 with none (R166). -/
def SideState.standaloneSize (d : SideState) : Nat × Nat :=
  match d.store.active with
  | none => (640, 480)
  | some _ => (d.developValues.width, d.developValues.height)

/-- The colour of a standalone frame: Wv of the active bank, or (64, 64, 64) with none (R166). -/
def SideState.standaloneColour (d : SideState) : Rgb :=
  match d.store.active with
  | none => ⟨64, 64, 64⟩
  | some _ => d.developValues.wv

/-- The taking of DEVELOP, SHADE and TONE at a standalone frame start; with no active bank nothing is taken (R49,
R68). -/
def SideState.takeStandalone (d : SideState) : SideState :=
  match d.store.active with
  | none => d
  | some _ =>
    let d1 := d.takeDevelop
    { d1 with pipe := { d1.pipe with values := some d.developValues } }

/-- A standalone frame start (R37, R166, R214): a pending commit swaps and its changes are evaluated, the timer
starts, the guard steps, the values are taken and the frame begins; its findings are evaluated last (log 10). -/
def startStandalone (s : State) (x : Side) : State :=
  let s1 := swapIfPending s x
  let s2 := s1.onSide x fun d => { d with standaloneDue := false, periodTimer := some s.timeBase }
  let s3 := (guardStep s2 x).onSide x SideState.takeInUse
  let d := s3.side x
  let s4 := s3.onSide x SideState.takeStandalone
  let s5 := beginEgressFrame s4 x .standalone d.standaloneSize.1 d.standaloneSize.2 d.standaloneColour
  settle s5 x d.cond

/-- STANDALONE_FRAME_START (R37): nothing happens unless one can take place (log 1). -/
def execStandaloneFrameStart (x : Side) (s : State) : Host.Outcome State Fault Refusal :=
  if s.resetHeld then .next s
  else if standaloneEnabled s x then .next (startStandalone s x) else .next s

/-! ## Display timeout (R39, R181) -/

/-- DISPLAY_FAULT of a side is judged from the display status record of its link (R181). -/
def judgeDisplay (s : State) (x : Side) : State :=
  let record := (s.link x).display
  s.onSide x fun d =>
    { d with
      cond := { d.cond with displayFault := record.silent || (record.faults &&& d.settings.displayFaultMask != 0) } }

/-- The silent flag of a link takes a value. -/
def LinkState.setSilent (l : LinkState) (v : Bool) : LinkState := { l with display := { l.display with silent := v } }

/-- DISPLAY_TIMEOUT_EXPIRY (R39): the timer stops, the silent flag is set, and DISPLAY_FAULT of the link's side is
judged. Nothing happens unless the expiry is due (log 1). -/
def execDisplayTimeoutExpiry (x : Side) (s : State) : Host.Outcome State Fault Refusal :=
  if s.resetHeld then .next s
  else if displayTimeoutDue s x then
    .next (settle (judgeDisplay (s.onLink x fun l => { l.setSilent true with displayTimer := none }) x) x
      (s.side x).cond)
  else .next s

/-! ## WARN pulse timer (R40) -/

/-- WARN_PULSE_EXPIRY (R40): WARN becomes INACTIVE and the timer stops. Nothing happens unless the expiry is due
(log 1). -/
def execWarnPulseExpiry (s : State) : Host.Outcome State Fault Refusal :=
  if s.resetHeld then .next s
  else if warnPulseDue s then .next (warnPulseEnd s) else .next s

end Sys2Proof.Machine
end

