-- ==== Sys2Proof/Machine/Display.lean ====
section
/-! DEFINITION. The completions on a display link's forward lane and the cells of its return lane (chapter 09). -/

namespace Sys2Proof.Machine

open Sys2Proof

/-! ## Completions on the forward lane (R172 to R176) -/

/-- The lane becomes IDLE. -/
def LinkState.idle (l : LinkState) : LinkState := { l with lane := .idle }

/-- The lane is sending a cell of a kind. -/
def LinkState.isSending (l : LinkState) (k : EgressKind) : Bool :=
  match l.lane with
  | .idle => false
  | .sending kind _ => decide (kind = k)

/-- A LINE completes: the lane becomes IDLE, the arbiter is offered the opportunity once, and the next frame cell
follows if it finds nothing (R176). -/
def completeLine (s : State) (x : Side) : State := s.onLink x fun l => afterLine s l.idle

/-- A FRAME START completes: the cell leaves the waiting FRAME START and the next frame cell follows (R173). -/
def completeFrameStart (s : State) (x : Side) : State :=
  kick (s.onLink x fun l => { l.idle with waitingStarts := l.waitingStarts.drop 1 }) x

/-- A FRAME END completes: its frame leaves the frames in progress and the lane becomes IDLE; the scrubber checks its
batch; the frame-end run opens and the transmitter chooses. A standalone frame start that waits for this moment takes
place before the run's first choice (R52, R175, R176; log 11). -/
def completeFrameEnd (s : State) (x : Side) : State :=
  let s1 := scrub (s.onLink x fun l => { l.idle with frames := l.frames.drop 1 }) x
  let s2 := s1.onLink x fun l => { l with run := some 0 }
  if standaloneEnabled s2 x then s2 else kick s2 x

/-- An inserted cell completes: the next choice is made, in the run if it is open (R176). -/
def completeInserted (s : State) (x : Side) : State := kick (s.onLink x LinkState.idle) x

/-- EGRESS_LINE_COMPLETION (R176). Nothing happens unless a LINE is being sent (log 1). -/
def execEgressLineCompletion (x : Side) (s : State) : Host.Outcome State Fault Refusal :=
  if s.resetHeld then .next s
  else if (s.link x).isSending .line then .next (completeLine s x) else .next s

/-- EGRESS_FRAME_END_COMPLETION (R175). Nothing happens unless a FRAME END is being sent (log 1). -/
def execEgressFrameEndCompletion (x : Side) (s : State) : Host.Outcome State Fault Refusal :=
  if s.resetHeld then .next s
  else if (s.link x).isSending .frameEnd then .next (completeFrameEnd s x) else .next s

/-- EGRESS_FRAME_START_COMPLETION (R173). Nothing happens unless a FRAME START is being sent (log 1). -/
def execEgressFrameStartCompletion (x : Side) (s : State) : Host.Outcome State Fault Refusal :=
  if s.resetHeld then .next s
  else if (s.link x).isSending .frameStart then .next (completeFrameStart s x) else .next s

/-- INSERTED_CELL_COMPLETION (R176). Nothing happens unless a REPORT or a RESPONSE is being sent (log 1). -/
def execInsertedCellCompletion (x : Side) (s : State) : Host.Outcome State Fault Refusal :=
  if s.resetHeld then .next s
  else if (s.link x).isSending .report || (s.link x).isSending .response then .next (completeInserted s x)
  else .next s

/-! ## Return lane (R179 to R182) -/

/-- An undamaged DISPLAY STATUS cell in the display status record (R180). -/
def LinkState.storeDisplay (l : LinkState) (body : List Byte) (now : Time) : LinkState :=
  { l with
    display := { l.display with faults := cellByte body 1, temperature := cellHalf body 2, silent := false }
    displayTimer := some now }

/-- DISPLAY_STATUS (R180): an undamaged cell is stored, restarts the display timeout, and DISPLAY_FAULT is judged; a
damaged or malformed one is discarded. -/
def execDisplayStatus (x : Side) (body : List Byte) (s : State) : Host.Outcome State Fault Refusal :=
  if s.resetHeld then .next s
  else if cellGood 0x31 6 body then
    .next (settle (judgeDisplay (s.onLink x (·.storeDisplay body s.timeBase)) x) x (s.side x).cond)
  else .next s

/-- A REQUEST is discarded and counted (R182). -/
def LinkState.discardRequest (l : LinkState) : LinkState :=
  { l with display := { l.display with discarded := satAdd 255 l.display.discarded 1 } }

/-- An undamaged REQUEST joins the tail of the request queue, or is discarded if the queue is full (R182). -/
def LinkState.queueRequest (l : LinkState) (r : Request) : LinkState :=
  if l.requests.length < Config.requestSlots then { l with requests := l.requests ++ [r] } else l.discardRequest

/-- REQUEST (R182). -/
def execRequest (x : Side) (body : List Byte) (s : State) : Host.Outcome State Fault Refusal :=
  if s.resetHeld then .next s
  else if requestGood body then .next (s.onLink x (·.queueRequest (requestFields body)))
  else .next (s.onLink x LinkState.discardRequest)

/-- DISPLAY_UNKNOWN_KIND_CELL (R179): the cell is discarded, damaged or not, and changes nothing. -/
def execDisplayUnknownKindCell (_x : Side) (_kind : Byte) (_body : List Byte) (s : State) :
    Host.Outcome State Fault Refusal := .next s

end Sys2Proof.Machine
end

