-- ==== Sys2Proof/Machine/Objects.lean ====
section
/-! DEFINITION. The readable objects: their items and the bits of every field (R188 to R190, R210 to R212). -/

namespace Sys2Proof.Machine

open Sys2Proof

/-! ## Codes (R211) -/

/-- The code of a receiver state. -/
def RecvState.code : RecvState → Nat
  | .waitStart => 0
  | .receiving => 1
  | .discarding => 2

/-- The number of a bank. -/
def bankNumber : BankId → Nat
  | .bank0 => 0
  | .bank1 => 1

/-- The number of a link. -/
def sideNumber : Side → Nat
  | .a => 0
  | .b => 1

/-- The code of an active bank, 3 for none. -/
def activeCode : Option BankId → Nat
  | none => 3
  | some i => bankNumber i

/-- The code of an operation in flight. -/
def OpKind.code : OpKind → Nat
  | .copy => 1
  | .check _ => 2

/-- The state, tag, ack counter and E of an exposure slot, as they read. -/
def Slot.fields : Slot → Nat × Nat × Nat × Nat
  | .empty => (0, 0, 0, 0)
  | .waitingTx tag index => (1, tag.toNat, 0, index)
  | .sent tag index acks => (2, tag.toNat, acks, index)

/-- The code of the command lane transmitter. -/
def CommandLane.code : CommandLane → Nat
  | .idle => 0
  | .exposure _ => 1
  | .pass _ => 2

/-! ## SIDE STATUS (R211) -/

/-- The fields of word 6: the Table Store. -/
def Store.word6 (t : Store) : List Nat :=
  let op :=
    match t.op with
    | none => (0, 0, 0)
    | some o => (o.kind.code, sideNumber o.link, o.progress)
  [field 0 2 (activeCode t.active), field 2 1 (bankNumber t.shadow), flagAt 3 t.commitPending, field 4 2 op.1,
   field 6 1 op.2.1, field 8 10 t.scrub, field 20 10 op.2.2]

/-- The fields of word 7: the frame size in use. -/
def Store.word7 (t : Store) : List Nat :=
  match t.frameSize with
  | none => []
  | some (w, h) => [field 0 12 w, field 16 12 h, flagAt 31 true]

/-- The fields of word 9: E and the last commanded E. -/
def Exposure.word9 (e : Exposure) : List Nat :=
  [field 0 9 (e.index.getD 0), flagAt 15 e.index.isSome, field 16 9 (e.last.getD 0), flagAt 31 e.last.isSome]

/-- The fields of word 10: the tag counter and the slot. -/
def Exposure.word10 (e : Exposure) : List Nat :=
  let slot := e.slot.fields
  [field 0 4 e.tag.toNat, field 4 2 slot.1, field 8 4 slot.2.1, field 12 4 slot.2.2.1, field 16 9 slot.2.2.2]

/-- The fields of word 12: the limits in force. -/
def Exposure.word12 (e : Exposure) : List Nat :=
  match e.limits with
  | none => []
  | some (lo, hi) => [field 0 9 lo, field 16 9 hi, flagAt 31 true]

/-- The fields of a word of SIDE STATUS. -/
def SideState.statusFields (d : SideState) (i : Nat) : List Nat :=
  match i with
  | 0 => [field 0 2 d.recv.state.code, field 8 8 d.recv.frameNumber.toNat, field 16 11 d.recv.expected]
  | 1 => [field 0 11 d.recv.damaged, field 16 11 d.recv.missing]
  | 2 => [field 0 16 d.recv.discarded, field 16 8 d.recv.freeze]
  | 3 => [field 0 16 d.cond.vector.toNat, field 16 4 (flagNat d.groups.states), field 20 4 (flagNat d.groups.flags)]
  | 4 =>
    [field 0 3 d.guard.state.code, field 8 7 d.guard.m, field 16 8 d.guard.countdown, flagAt 24 d.guard.ready,
     flagAt 25 d.source.bit]
  | 5 => [field 0 7 d.pipe.fade, flagAt 7 d.pipe.nextReady, field 16 12 d.pipe.knee]
  | 6 => d.store.word6
  | 7 => d.store.word7
  | 8 =>
    [flagAt 0 d.stats.gathering.gathering, flagAt 1 d.stats.published.full, flagAt 2 d.glare.update.isSome,
     flagAt 3 (decide (d.glare.night = .night)), field 8 8 d.glare.counter, field 16 8 d.glare.zoneCount]
  | 9 => d.exposure.word9
  | 10 => d.exposure.word10
  | 11 =>
    [field 0 8 d.exposure.pinned, field 8 3 d.exposure.passQueue.length, field 12 2 d.exposure.lane.code]
  | 12 => d.exposure.word12
  | _ => []

/-! ## The other objects (R212) -/

/-- An item of the CAMERA STATUS RECORD. -/
def CameraStatus.item (r : CameraStatus) (i : Nat) : Word :=
  match i with
  | 0 => packWord [field 0 4 r.tag.toNat, field 8 9 r.exposure.toNat, field 24 8 r.frameNumber.toNat]
  | _ =>
    packWord [field 0 16 r.temperature.toNat, field 16 8 r.faults.toNat, flagAt 24 r.damagedOnStore, flagAt 25 r.valid]

/-- An item of the TIMING RECORD. -/
def Timing.item (t : Timing) (i : Nat) : Word :=
  match i with
  | 0 => t.last
  | 1 => t.reference.getD 0
  | 2 => BitVec.ofNat 32 (t.interval.getD 0)
  | _ =>
    packWord [field 0 4 t.divider, flagAt 8 t.unread, flagAt 9 t.overrun, flagAt 10 t.reference.isSome,
      flagAt 11 t.interval.isSome]

/-- An item of the DISPLAY STATUS RECORD. -/
def DisplayRecord.item (r : DisplayRecord) (i : Nat) : Word :=
  match i with
  | 0 => packWord [field 0 8 r.faults.toNat, flagAt 8 r.silent, field 16 8 r.discarded]
  | _ => packWord [field 0 16 r.temperature.toNat]

/-- An item of the PARITY RECORD. -/
def ParityRecord.item (p : ParityRecord) (i : Nat) : Word :=
  match i with
  | 0 =>
    match p.first with
    | none => packWord []
    | some f => packWord [field 0 9 f.index, field 16 3 f.table, field 24 1 (bankNumber f.bank), flagAt 31 true]
  | _ => packWord [field 0 8 p.count]

/-- The two words of an item of STATISTICS; every item of an EMPTY buffer reads 0. -/
def Published.item (p : Published) (i : Nat) : List Word :=
  if p.full then
    match i with
    | 0 =>
      [packWord [flagAt 0 true, field 8 8 p.frameNumber.toNat], packWord [field 0 16 p.width, field 16 16 p.height]]
    | k + 1 =>
      let t := p.tiles.getD k ⟨0, 0⟩
      [packWord [field 0 26 t.luma], packWord [field 0 14 t.clips]]
  else [packWord [], packWord []]

/-- An item of ATTENUATION. -/
def SideState.attenuationItem (d : SideState) (i : Nat) : Word :=
  packWord [field 0 8 (d.glare.target.getD i 0), field 8 8 (d.glare.current.getD i 0), field 16 8 (d.pipe.map.getD i 0)]

/-- A setting of a group: mask, reference, level. -/
def Group.setting (g : Group) (k : Nat) : Nat :=
  match k with
  | 0 => g.mask.toNat
  | 1 => g.reference.toNat
  | _ => g.level

/-- A group by number. -/
def Groups.nth (g : Groups) (k : Nat) : Group :=
  match k with
  | 0 => g.g0
  | 1 => g.g1
  | 2 => g.g2
  | _ => g.g3

/-- The value of a setting numbered 0 to 19 as it reads. -/
def Settings.value (k : Settings) (n : Nat) : Word :=
  match n with
  | 0 => BitVec.ofNat 32 k.frameTimeout
  | 1 => BitVec.ofNat 32 k.nominalInterval
  | 2 => BitVec.ofNat 32 k.intervalTolerance
  | 3 => BitVec.ofNat 32 k.captureDivider
  | 4 => BitVec.ofNat 32 k.standalonePeriod
  | 5 => BitVec.ofNat 32 k.crcMax
  | 6 => BitVec.ofNat 32 k.missingMax
  | 7 => if k.lineCrcPolicy = .conceal then 0 else 1
  | 8 => BitVec.ofNat 32 k.freezeFrames
  | 9 => BitVec.ofNat 32 k.ackFrames
  | 10 => BitVec.ofInt 32 k.tempLimit
  | 11 => BitVec.ofNat 32 k.displayTimeout
  | 12 => BitVec.ofNat 32 k.zoneLimit
  | 13 => BitVec.ofNat 32 k.pinnedFrames
  | 14 => BitVec.setWidth 32 k.cameraFaultMask
  | 15 => BitVec.setWidth 32 k.displayFaultMask
  | 16 => if k.statusStore = .checked then 0 else 1
  | 17 => if k.restoreMode = .auto then 0 else 1
  | 18 => BitVec.ofNat 32 k.restoreFrames
  | _ => BitVec.ofNat 32 k.fadeStep

/-- An item of SETTINGS, read through a side; item 32 is the one part-wide WarnPulseWidth (R189). -/
def settingItem (s : State) (x : Side) (n : Nat) : Word :=
  if n < 20 then (s.side x).settings.value n
  else if n < 32 then BitVec.ofNat 32 (((s.side x).groups.nth ((n - 20) / 3)).setting ((n - 20) % 3))
  else BitVec.ofNat 32 s.warnPulseWidth

/-- An item of PART STATUS. -/
def partItem (s : State) (i : Nat) : Word :=
  match i with
  | 0 => packWord [field 0 8 Config.revision, field 16 16 Config.partCode]
  | 1 => packWord [flagAt 0 s.notice.isSome, flagAt 1 (decide (s.notice = some .request)), flagAt 2 s.fault, flagAt 3 s.warn]
  | _ => s.timeBase

/-! ## Objects by id (R189, R209) -/

/-- The readable objects. -/
inductive ObjectId where
  | sideStatus
  | cameraStatus
  | timing
  | display
  | parity
  | statistics
  | attenuation
  | settings
  | partStatus
  deriving DecidableEq, Repr

/-- The object an id names (R209). -/
def objectOf (id : Nat) : Option ObjectId :=
  match id with
  | 0 => some .sideStatus
  | 1 => some .cameraStatus
  | 2 => some .timing
  | 3 => some .display
  | 4 => some .parity
  | 5 => some .statistics
  | 6 => some .attenuation
  | 7 => some .settings
  | 8 => some .partStatus
  | _ => none

/-- The number of items of an object (R189). -/
def ObjectId.items : ObjectId → Nat
  | .sideStatus => 16
  | .cameraStatus => 2
  | .timing => 4
  | .display => 2
  | .parity => 2
  | .statistics => 193
  | .attenuation => 192
  | .settings => 33
  | .partStatus => 3

/-- The item size of an object in data words (R189). -/
def ObjectId.size : ObjectId → Nat
  | .statistics => 2
  | .sideStatus | .cameraStatus | .timing | .display | .parity | .attenuation | .settings | .partStatus => 1

/-- The data words of an item of an object, read through a side. -/
def objectItem (s : State) (x : Side) (o : ObjectId) (i : Nat) : List Word :=
  let d := s.side x
  match o with
  | .sideStatus => [packWord (d.statusFields i)]
  | .cameraStatus => [d.status.item i]
  | .timing => [d.timing.item i]
  | .display => [(s.link x).display.item i]
  | .parity => [d.store.parity.item i]
  | .statistics => d.stats.published.item i
  | .attenuation => [d.attenuationItem i]
  | .settings => [settingItem s x i]
  | .partStatus => [partItem s i]

/-- The data words of items index to index + count - 1 (R188). -/
def objectItems (s : State) (x : Side) (o : ObjectId) (index count : Nat) : List Word :=
  (List.range count).flatMap fun k => objectItem s x o (index + k)

end Sys2Proof.Machine
end

