-- ==== Sys2Proof/Machine/Settings.lean ====
section
/-! DEFINITION. The settings: the conversion of a written value, the storing of a request's values, and the effects that
follow (R191 to R194). -/

namespace Sys2Proof.Machine

open Sys2Proof

/-! ## Conversion (R193) -/

/-- A number brought into its range: below it the lower limit, above it the upper. -/
def toRange (lo hi : Nat) (v : Word) : Nat := clampInto lo hi v.toNat

/-- CaptureDivider: the nearest of 1, 4 and 16, a value midway between two going to the larger. -/
def toDivider (v : Word) : Nat := if v.toNat ≤ 2 then 1 else if v.toNat ≤ 9 then 4 else 16

/-- TempLimit: a signed number brought into -40 to 150. -/
def toTempLimit (v : Word) : Int := max (-40) (min 150 v.toInt)

/-- A setting numbered 0 to 19 takes a converted value (R192, R193). -/
def Settings.write (k : Settings) (n : Nat) (v : Word) : Settings :=
  match n with
  | 0 => { k with frameTimeout := toRange 10 1000 v }
  | 1 => { k with nominalInterval := toRange 10000 100000 v }
  | 2 => { k with intervalTolerance := toRange 0 10000 v }
  | 3 => { k with captureDivider := toDivider v }
  | 4 => { k with standalonePeriod := toRange 10000 100000 v }
  | 5 => { k with crcMax := toRange 0 255 v }
  | 6 => { k with missingMax := toRange 0 255 v }
  | 7 => { k with lineCrcPolicy := if v = 0 then .conceal else .accept }
  | 8 => { k with freezeFrames := toRange 2 255 v }
  | 9 => { k with ackFrames := toRange 1 15 v }
  | 10 => { k with tempLimit := toTempLimit v }
  | 11 => { k with displayTimeout := toRange 10 1000 v }
  | 12 => { k with zoneLimit := toRange 1 192 v }
  | 13 => { k with pinnedFrames := toRange 1 255 v }
  | 14 => { k with cameraFaultMask := v.extractLsb' 0 8 }
  | 15 => { k with displayFaultMask := v.extractLsb' 0 8 }
  | 16 => { k with statusStore := if v = 0 then .checked else .always }
  | 17 => { k with restoreMode := if v = 0 then .auto else .manual }
  | 18 => { k with restoreFrames := toRange 0 255 v }
  | _ => { k with fadeStep := toRange 1 64 v }

/-- A group takes a converted mask, reference or level (R132, R193). -/
def Group.write (g : Group) (k : Nat) (v : Word) : Group :=
  match k with
  | 0 => { g with mask := v.extractLsb' 0 16 }
  | 1 => { g with reference := v.extractLsb' 0 16 }
  | _ => { g with level := min 3 v.toNat }

/-- Changes one group of a side. -/
def Groups.onNth (g : Groups) (k : Nat) (f : Group → Group) : Groups :=
  match k with
  | 0 => { g with g0 := f g.g0 }
  | 1 => { g with g1 := f g.g1 }
  | 2 => { g with g2 := f g.g2 }
  | _ => { g with g3 := f g.g3 }

/-- One value is stored in the setting of a number, 0 to 32; number 32 is the part-wide WarnPulseWidth (R192). -/
def storeSetting (s : State) (x : Side) (n : Nat) (v : Word) : State :=
  if n < 20 then s.onSide x fun d => { d with settings := d.settings.write n v }
  else if n < 32 then
    s.onSide x fun d => { d with groups := d.groups.onNth ((n - 20) / 3) fun g => g.write ((n - 20) % 3) v }
  else { s with warnPulseWidth := toRange 100 5000 v }

/-- The values of a request are stored from the first number on, in order (R191). -/
def storeSettings (s : State) (x : Side) : Nat → List Word → State
  | _, [] => s
  | n, v :: vs => storeSettings (storeSetting s x n v) x (n + 1) vs

/-! ## Effects (R194) -/

/-- A request that writes count values from first on writes setting n. -/
def writes (first count n : Nat) : Bool := decide (first ≤ n) && decide (n < first + count)

/-- A write of CaptureDivider makes the reference absent (R33). -/
def SideState.dividerEffect (d : SideState) (written : Bool) : SideState :=
  if written then { d with timing := d.timing.dropReference } else d

/-- A write of CameraFaultMask or TempLimit judges CAMERA_FAULT and TEMP_HIGH again (R25). -/
def SideState.cameraEffect (d : SideState) (written : Bool) : SideState := if written then d.judgeCamera else d

/-- The groups are evaluated once if the request changed the vector or wrote a group setting; a write that gives every
group setting the value it held finds nothing changed (R132, R137, R138, R194). -/
def groupEffect (s : State) (x : Side) (before : Conditions) (old : Groups) : State :=
  if (s.side x).cond = before ∧ (s.side x).groups = old then s else evaluateFrom s x old

/-- A write that makes RestoreMode AUTO: a guard in HELD on a restore-ready side starts restoration (R159, R163). -/
def modeEffect (s : State) (x : Side) (before : RestoreMode) : State :=
  if before = .manual ∧ (s.side x).settings.restoreMode = .auto then judgeRestoration s x else s

/-- WRITE SETTINGS of a side that is not refused: the values are stored together, then the effects follow (R191, R194).
The timers read their settings at each judgement, so a duration written governs at once (R38, R41). -/
def writeSettings (s : State) (x : Side) (first : Nat) (values : List Word) : State :=
  let d := s.side x
  let n := values.length
  let s1 := storeSettings s x first values
  let s2 := s1.onSide x fun e =>
    (e.dividerEffect (writes first n 3)).cameraEffect (writes first n 10 || writes first n 14)
  let s3 := if writes first n 15 then judgeDisplay s2 x else s2
  modeEffect (groupEffect s3 x d.cond d.groups) x d.settings.restoreMode

end Sys2Proof.Machine
end

