-- ==== Sys2Proof/Machine/Requests.lean ====
section
/-! DEFINITION. The taking of requests from the head of a request queue, and the kinds that act on one block (R183,
R187; R53 to R55, R58, R125, R131, R141, R146, R161, R188, R191). -/

namespace Sys2Proof.Machine

open Sys2Proof

/-! ## Taking (R183, R184) -/

/-- An operation of a side was taken from a link. -/
def Store.opFrom (t : Store) (x : Side) : Bool :=
  match t.op with
  | none => false
  | some op => decide (op.link = x)

/-- A link is stalled: a copy or check taken from it is in flight (R184). -/
def stalled (s : State) (x : Side) : Bool := s.sideA.store.opFrom x || s.sideB.store.opFrom x

/-- The request that a link would take now, if it can take one (R183). -/
def headRequest (s : State) (x : Side) : Option Request :=
  if s.resetHeld || stalled s x || decide (Config.responseSlots ≤ (s.link x).responses.length) then none
  else (s.link x).requests.head?

/-- The request at the head can be taken and is of a kind. -/
def headOf (s : State) (x : Side) (k : RequestKind) : Option Request :=
  (headRequest s x).filter fun r => decide (r.requestKind = k)

/-- Taking removes the request from the request queue (R183). -/
def takeRequest (s : State) (x : Side) : State := s.onLink x fun l => { l with requests := l.requests.drop 1 }

/-- The response is placed in the slot reserved at the taking (R183, R187). -/
def respond (s : State) (x : Side) (r : Response) : State := s.onLink x (·.answer r)

/-- A refusal: the request changes nothing besides filling its slot (R187). -/
def refuse (s : State) (x : Side) (c : RefusalCode) : State := respond s x (.refused c)

/-! ## READ (R188 to R190) -/

/-- The side that a READ of an object reads; the side of a READ of PART STATUS is not read (R188). -/
def Request.readSide (r : Request) (o : ObjectId) : Option Side := if o = .partStatus then some .a else r.names

/-- Index and count of a READ stay within the object and within 8 data words (R188, order 3). -/
def Request.readInRange (r : Request) (o : ObjectId) : Bool :=
  decide (r.count.toNat ≠ 0) && decide (r.count.toNat * o.size ≤ 8) &&
    decide (r.index.toNat + r.count.toNat ≤ o.items)

/-- A READ of the TIMING RECORD clears the unread and overrun flags (R32, R190). -/
def SideState.clearUnread (d : SideState) : SideState :=
  { d with timing := { d.timing with unread := false, overrun := false } }

/-- A READ that has been taken (R188, R190). -/
def doRead (s : State) (x : Side) (r : Request) : State :=
  match objectOf r.id.toNat with
  | none => refuse s x .unknown
  | some o =>
    match r.readSide o with
    | none => refuse s x .unknown
    | some y =>
      if r.readInRange o then
        let words := objectItems s y o r.index.toNat r.count.toNat
        respond (if o = .timing then s.onSide y SideState.clearUnread else s) x (.data words)
      else refuse s x .range

/-! ## WRITE SETTINGS (R191) -/

/-- First setting number, count and payload of a WRITE SETTINGS agree (R191, order 2). -/
def Request.settingsInRange (r : Request) : Bool :=
  decide (r.count.toNat ≠ 0) && decide (r.count.toNat ≤ 8) && decide (r.payload.length = 4 * r.count.toNat) &&
    decide (r.id.toNat + r.count.toNat ≤ 33)

/-- A WRITE SETTINGS that has been taken (R191). -/
def doWriteSettings (s : State) (x : Side) (r : Request) : State :=
  match r.names with
  | none => refuse s x .unknown
  | some y =>
    if 32 < r.id.toNat then refuse s x .unknown
    else if r.settingsInRange then respond (writeSettings s y r.id.toNat (payloadWords r.payload)) x .done
    else refuse s x .range

/-! ## TABLE WRITE and TABLE READ (R53, R54) -/

/-- The count of a table access and the index with it stay within the table of the id given (R53, order 2). -/
def Request.tableInRange (r : Request) (table : Nat) : Bool :=
  decide (r.count.toNat ≠ 0) && decide (r.count.toNat ≤ 8) &&
    decide (r.index.toNat + r.count.toNat ≤ tableLength table)

/-- The side has an operation in flight or a commit pending (R53, R55, R58). -/
def Store.busy (t : Store) : Bool := t.op.isSome || t.commitPending

/-- Words are written to the shadow bank with good parity (R53). -/
def SideState.writeShadow (d : SideState) (w : Nat) (values : List Half) : SideState :=
  { d with store := d.store.onBank d.store.shadow fun b => b.writeMany w values }

/-- A TABLE WRITE that has been taken (R53). -/
def doTableWrite (s : State) (x : Side) (r : Request) : State :=
  match r.names with
  | none => refuse s x .unknown
  | some y =>
    let t := r.id.toNat
    if 5 < t then refuse s x .unknown
    else if !r.tableInRange t || decide (r.payload.length ≠ 2 * r.count.toNat) then refuse s x .range
    else if (s.side y).store.busy then refuse s x .busy
    else respond (s.onSide y (·.writeShadow (tableOffset t + r.index.toNat) (payloadHalves r.payload))) x .done

/-- The bank words of a table access. -/
def Request.tableWords (r : Request) (table : Nat) : List Nat :=
  (List.range r.count.toNat).map fun k => tableOffset table + r.index.toNat + k

/-- The data word of an active word: the value used and the failed flag (R54, R207). -/
def activeWord (b : Bank) (w : Nat) : Word :=
  packWord [field 0 16 ((b.read w).used w), flagAt 16 (b.read w).failed]

/-- The data word of a shadow word: the value as the memory holds it, the flag clear (R54). -/
def shadowWord (b : Bank) (w : Nat) : Word := packWord [field 0 16 (b.read w).value.toNat]

/-- A TABLE READ that has been taken: id bits 6-0 name the table and bit 7 the bank (R54, R209). Failed active words are
findings, evaluated as one change (log 30). -/
def doTableRead (s : State) (x : Side) (r : Request) : State :=
  match r.names with
  | none => refuse s x .unknown
  | some y =>
    let t := (r.id.extractLsb' 0 7).toNat
    let store := (s.side y).store
    if 5 < t then refuse s x .unknown
    else if !r.tableInRange t then refuse s x .range
    else if r.id.msb then
      respond s x (.data ((r.tableWords t).map (shadowWord (store.bank store.shadow))))
    else
      match store.active with
      | none => refuse s x .noBank
      | some _ =>
        respond (settle (s.onSide y (·.findFailed (r.tableWords t))) y (s.side y).cond) x
          (.data ((r.tableWords t).map (activeWord store.activeBank)))

/-! ## COPY BANK and COMMIT BANK (R55, R58) -/

/-- An operation begins with progress 0, taken from a link. -/
def SideState.beginOp (d : SideState) (kind : OpKind) (link : Side) : SideState :=
  { d with store := { d.store with op := some ⟨kind, link, 0, false, 0, none⟩ } }

/-- The operation begins and the request's slot stays reserved (R55, R58). -/
def beginOperation (s : State) (x y : Side) (kind : OpKind) : State :=
  (s.onSide y (·.beginOp kind x)).onLink x LinkState.reserve

/-- A COPY BANK that has been taken (R55). -/
def doCopyBank (s : State) (x : Side) (r : Request) : State :=
  match r.names with
  | none => refuse s x .unknown
  | some y =>
    match (s.side y).store.active with
    | none => refuse s x .noBank
    | some _ => if (s.side y).store.busy then refuse s x .busy else beginOperation s x y .copy

/-- A COMMIT BANK that has been taken (R58). -/
def doCommitBank (s : State) (x : Side) (r : Request) : State :=
  match r.names with
  | none => refuse s x .unknown
  | some y => if (s.side y).store.busy then refuse s x .busy else beginOperation s x y (.check r.index)

/-! ## ACKNOWLEDGE, VIEW RESTORE, FORCE WARNING, WARN STOP (R141, R161, R131, R146) -/

/-- The event flag becomes clear if the group is selected. -/
def Group.acknowledge (g : Group) (selected : Bool) : Group := { g with flag := g.flag && !selected }

/-- The event flags of the groups selected by id bits 3-0 become clear (R141). -/
def Groups.acknowledge (g : Groups) (id : Byte) : Groups :=
  { g0 := g.g0.acknowledge (id.getLsbD 0)
    g1 := g.g1.acknowledge (id.getLsbD 1)
    g2 := g.g2.acknowledge (id.getLsbD 2)
    g3 := g.g3.acknowledge (id.getLsbD 3) }

/-- The event flags selected on a side become clear; a side that names neither clears none (R141). -/
def acknowledgeSide (s : State) (y : Option Side) (id : Byte) : State :=
  match y with
  | none => s
  | some y => s.onSide y fun d => { d with groups := d.groups.acknowledge id }

/-- The reset notice becomes clear if id bit 4 asks for it (R141, R148). -/
def acknowledgeNotice (s : State) (id : Byte) : State :=
  { s with notice := if id.getLsbD 4 then none else s.notice }

/-- An ACKNOWLEDGE that has been taken; FAULT is judged afterwards (R141). -/
def doAcknowledge (s : State) (x : Side) (r : Request) : State :=
  respond (judgeFault (acknowledgeNotice (acknowledgeSide s r.names r.id) r.id)) x .done

/-- A VIEW RESTORE that has been taken (R161). -/
def doViewRestore (s : State) (x : Side) (r : Request) : State :=
  match r.names with
  | none => refuse s x .notReady
  | some y =>
    if (s.side y).guard.state = .held ∧ (s.side y).guard.ready = true then respond (startRestoration s y) x .done
    else refuse s x .notReady

/-- FORCED of a side takes a value. -/
def SideState.setForced (d : SideState) (v : Bool) : SideState := { d with cond := { d.cond with forced := v } }

/-- A FORCE WARNING that has been taken: id 0 is off, any other value on (R131, R209). -/
def doForceWarning (s : State) (x : Side) (r : Request) : State :=
  match r.names with
  | none => respond s x .done
  | some y =>
    respond (settle (s.onSide y (·.setForced (decide (r.id ≠ 0)))) y (s.side y).cond) x .done

/-- A WARN STOP that has been taken (R146). -/
def doWarnStop (s : State) (x : Side) (_r : Request) : State := respond (warnPulseEnd s) x .done

/-! ## CAMERA PASS (R125) -/

/-- The payload joins the tail of the pass-through queue, and the transmitter chooses if it is IDLE (R118, R125). -/
def Exposure.queuePass (e : Exposure) (payload : List Byte) : Exposure :=
  Exposure.choose { e with passQueue := e.passQueue ++ [payload] }

/-- The count of a CAMERA PASS is 1 to 8 and its payload holds exactly that many bytes (R125). -/
def Request.passInRange (r : Request) : Bool :=
  decide (r.count.toNat ≠ 0) && decide (r.count.toNat ≤ 8) && decide (r.payload.length = r.count.toNat)

/-- A CAMERA PASS that has been taken (R125). -/
def doCameraPass (s : State) (x : Side) (r : Request) : State :=
  match r.names with
  | none => refuse s x .unknown
  | some y =>
    if !r.passInRange then refuse s x .range
    else if Config.passSlots ≤ (s.side y).exposure.passQueue.length then refuse s x .busy
    else respond (s.onSide y fun d => { d with exposure := d.exposure.queuePass r.payload }) x .done

/-! ## Commands -/

/-- Takes the head of a link's request queue and executes it, if it can be taken and is of the kind given; otherwise
nothing happens (R183, R187, log 1, log 18). -/
def taken (s : State) (x : Side) (k : RequestKind) (run : State → Side → Request → State) :
    Host.Outcome State Fault Refusal :=
  match headOf s x k with
  | none => .next s
  | some r => .next (run (takeRequest s x) x r)

/-- READ (R188). -/
def execRead (x : Side) (s : State) : Host.Outcome State Fault Refusal := taken s x .read doRead

/-- WRITE_SETTINGS (R191). -/
def execWriteSettings (x : Side) (s : State) : Host.Outcome State Fault Refusal :=
  taken s x .writeSettings doWriteSettings

/-- TABLE_WRITE (R53). -/
def execTableWrite (x : Side) (s : State) : Host.Outcome State Fault Refusal := taken s x .tableWrite doTableWrite

/-- TABLE_READ (R54). -/
def execTableRead (x : Side) (s : State) : Host.Outcome State Fault Refusal := taken s x .tableRead doTableRead

/-- COPY_BANK (R55). -/
def execCopyBank (x : Side) (s : State) : Host.Outcome State Fault Refusal := taken s x .copyBank doCopyBank

/-- COMMIT_BANK (R58). -/
def execCommitBank (x : Side) (s : State) : Host.Outcome State Fault Refusal := taken s x .commitBank doCommitBank

/-- ACKNOWLEDGE (R141). -/
def execAcknowledge (x : Side) (s : State) : Host.Outcome State Fault Refusal := taken s x .acknowledge doAcknowledge

/-- VIEW_RESTORE (R161). -/
def execViewRestore (x : Side) (s : State) : Host.Outcome State Fault Refusal := taken s x .viewRestore doViewRestore

/-- FORCE_WARNING (R131). -/
def execForceWarning (x : Side) (s : State) : Host.Outcome State Fault Refusal :=
  taken s x .forceWarning doForceWarning

/-- WARN_STOP (R146). -/
def execWarnStop (x : Side) (s : State) : Host.Outcome State Fault Refusal := taken s x .warnStop doWarnStop

/-- CAMERA_PASS (R125). -/
def execCameraPass (x : Side) (s : State) : Host.Outcome State Fault Refusal := taken s x .cameraPass doCameraPass

/-- UNKNOWN_REQUEST (R183): a request of unknown kind is answered REFUSED UNKNOWN. -/
def execUnknownRequest (x : Side) (s : State) : Host.Outcome State Fault Refusal :=
  taken s x .unknown fun t y _ => refuse t y .unknown

end Sys2Proof.Machine
end

