-- ==== Sys2Proof/Machine/Reset.lean ====
section
/-! DEFINITION. SIDE RESTART, PART RESET and the RESET pin (R195 to R201). -/

namespace Sys2Proof.Machine

open Sys2Proof

/-! ## SIDE RESTART (R196) -/

/-- Order 1: an operation in flight for the side ends with REFUSED ABORTED in its reserved slot, and a pending commit is
cancelled (R57, R60, R66). -/
def abortOperation (s : State) (y : Side) : State :=
  let s1 :=
    match (s.side y).store.op with
    | none => s
    | some op => s.onLink op.link (·.fill (.refused .aborted))
  s1.onSide y fun d => { d with store := { d.store with op := none, commitPending := false } }

/-- The receiver and the camera status record take their restart values; the current frame number is kept (R27). -/
def SideState.restartReceiver (d : SideState) : SideState :=
  { d with
    recv :=
      { d.recv with
        state := .waitStart, expected := 0, damaged := 0, missing := 0, discarded := 0, signature := 0
        prevSignature := none, prevFrame := none, freeze := 0
        lastGood := List.replicate d.recv.lastGood.length Rgb.black }
    status := .empty }

/-- The timing record is emptied and the frame timeout and the standalone period timer stop (R43, log 17). -/
def SideState.restartTiming (d : SideState) : SideState :=
  { d with timing := .empty, frameTimer := none, periodTimer := none }

/-- The pipeline, the statistics and the Glare Unit take their restart values; an update in flight is to drop its
results (R88, R96, R107). -/
def SideState.restartGlare (d : SideState) : SideState :=
  { d with
    stats := { gathering := .empty, published := .empty }
    glare :=
      { d.glare with
        night := .day, counter := 0, target := zeroMap, current := zeroMap, next := zeroMap, zoneCount := 0
        update := d.glare.update.map fun u => { u with dropped := true } }
    pipe := { d.pipe with map := zeroMap, knee := 4095, nextReady := false, fade := 64 } }

/-- The E that a restart gives: Einit of the active bank, or unset with none (R110, R111). -/
def SideState.restartIndex (d : SideState) : Option Nat :=
  match d.store.active with
  | none => none
  | some i => some (initialIndex ((d.store.bank i).read 705) d.exposure.limits)

/-- The exposure state takes its restart values; the limits in force and a transmission in progress are kept (R120,
R129). -/
def SideState.restartExposure (d : SideState) : SideState :=
  { d with
    exposure :=
      { d.exposure with
        index := d.restartIndex, last := none, tag := 0, slot := .empty, pinned := 0, passQueue := [] } }

/-- Positions 1 to 11 become false and LINK_LOSS true; the others are kept (R151). -/
def Conditions.restart (c : Conditions) : Conditions :=
  { Conditions.reset with
    displayFault := c.displayFault, tableParity := c.tableParity, noTables := c.noTables, forced := c.forced }

/-- Order 3: the restart values, with the finding of a failed Einit (R49). -/
def SideState.restartValues (d : SideState) : SideState :=
  ((d.restartExposure.findFailed [705]).restartReceiver.restartTiming).restartGlare

/-- The restart of a side, in the order of R196, orders 1 to 5. -/
def restartSide (s : State) (y : Side) : State :=
  let s1 := abandonFrame (abortOperation s y) y
  let s2 := s1.onSide y SideState.restartValues
  let s3 := (setGuard s2 y .held 64 0).onSide y SideState.goStandalone
  let s4 := s3.onSide y fun d => { d with cond := d.cond.restart }
  judgeRestoration (evaluate s4 y) y

/-- A SIDE RESTART that has been taken: DONE whatever its side field holds (R195). -/
def doSideRestart (s : State) (x : Side) (r : Request) : State :=
  match r.names with
  | none => respond s x .done
  | some y => respond (restartSide s y) x .done

/-- The handling of a cell of the side, or an expiry of its frame timeout, is unfinished: a line of it waits in the
pipeline (R1, R174, R215). -/
def handlingCell (s : State) (y : Side) : Bool :=
  match (s.side y).pipe.waiting with
  | none => false
  | some w =>
    match w.after with
    | .handled => true
    | .cell _ _ => true
    | .expiry _ => true
    | .abandoned _ => false

/-- The SIDE RESTART at the head must wait until the handling of a cell of its side, or the expiry of its frame timeout,
has completed (R27; log 18). -/
def restartWaits (s : State) (x : Side) : Bool :=
  match headOf s x .sideRestart with
  | none => false
  | some r =>
    match r.names with
    | none => false
    | some y => handlingCell s y

/-- SIDE_RESTART (R195, R196). -/
def execSideRestart (x : Side) (s : State) : Host.Outcome State Fault Refusal :=
  if restartWaits s x then .next s else taken s x .sideRestart doSideRestart

/-! ## PART RESET and the RESET pin (R199 to R201) -/

/-- The part as a reset leaves it, the commands that wait kept (log 29). -/
def resetPart (s : State) (cause : Cause) : State := { State.reset with notice := some cause, pending := s.pending }

/-- PART_RESET (R199): there is no response. -/
def execPartReset (x : Side) (s : State) : Host.Outcome State Fault Refusal :=
  taken s x .partReset fun t _ _ => resetPart t .request

/-- The timers that a reset starts do not run, and no standalone frame start is due, while RESET is held low (R200). -/
def LinkState.stopped (l : LinkState) : LinkState := { l with displayTimer := none }

/-- RESET_LOW (R200): the part takes its reset values with cause POWER and is held there. -/
def execResetLow (s : State) : Host.Outcome State Fault Refusal :=
  let t := resetPart s .power
  .next
    { t with
      linkA := t.linkA.stopped
      linkB := t.linkB.stopped
      sideA := { t.sideA with standaloneDue := false }
      sideB := { t.sideB with standaloneDue := false }
      resetHeld := true }

/-- The display timeout of a link starts at the release (R201). -/
def LinkState.startTimer (l : LinkState) (now : Time) : LinkState := { l with displayTimer := some now }

/-- RESET_RELEASED (R201): the part runs from its reset values; with RESET not held low nothing happens (log 1). -/
def execResetReleased (s : State) : Host.Outcome State Fault Refusal :=
  if s.resetHeld then
    .next
      { s with
        linkA := s.linkA.startTimer s.timeBase
        linkB := s.linkB.startTimer s.timeBase
        sideA := { s.sideA with standaloneDue := true }
        sideB := { s.sideB with standaloneDue := true }
        resetHeld := false }
  else .next s

end Sys2Proof.Machine
end

