-- ==== Sys2Proof/Machine/Deferred.lean ====
section
/-! DEFINITION. The delivery of a waiting line, and what follows it: the rest of the handling it belongs to, an expiry
or a SIDE RESTART that waited for that handling, and the cells held meanwhile (R1, R21, R27, R174, R215). -/

namespace Sys2Proof.Machine

open Sys2Proof

/-- What a delivered line leaves to be done goes on (R174). -/
def resume (s : State) (x : Side) : After → State
  | .handled => s
  | .cell y c => handleFrom s x c y
  | .expiry y => expireFrom s x y
  | .abandoned r => deliverRemainder x (r.stop - r.next) r s

/-- An expiry of the frame timeout that has come meanwhile is taken (R21). -/
def takeWaitingExpiry (s : State) (x : Side) : State := if frameTimeoutDue s x then expireFrameTimeout s x else s

/-- A SIDE RESTART of the side that stands at the head of a link's request queue and can be taken is taken (R27); while
the expiry taken before it is unfinished it waits on (log 18). -/
def takeWaitingRestart (s : State) (x link : Side) : State :=
  match headOf s link .sideRestart with
  | none => s
  | some r =>
    if r.names = some x ∧ handlingCell s x = false then doSideRestart (takeRequest s link) link r else s

/-- When the handling of a cell has completed, an expiry and a SIDE RESTART that arrived during it are taken, before the
next cell (R21, R27; log 7). -/
def takeWaitingEvents (s : State) (x : Side) : State :=
  takeWaitingRestart (takeWaitingRestart (takeWaitingExpiry s x) x .a) x .b

/-- What follows when nothing of what a line left to be done is left: the events that waited for the handling of its
cell, then the cells held. -/
def finishHandling (s : State) (x : Side) : After → State
  | .handled => takeHeld (takeWaitingEvents s x) x
  | .cell _ _ => takeHeld (takeWaitingEvents s x) x
  | .expiry _ => takeHeld (takeWaitingEvents s x) x
  | .abandoned _ => takeHeld s x

/-- The waiting line of a side is delivered, and all that its delivery lets go on takes place. -/
def deliverAndGoOn (s : State) (x : Side) (w : Waiting) : State :=
  let s1 := resume (deliverWaiting s x w.line) x w.after
  if waits s1 x then s1 else finishHandling s1 x w.after

/-- DEFERRED_LINE_DELIVERY (R174): the waiting line is delivered if there is room, and the handling it belongs to goes
on. With no line waiting or no room nothing happens (log 1). -/
def execDeferredLineDelivery (x : Side) (s : State) : Host.Outcome State Fault Refusal :=
  if s.resetHeld then .next s
  else
    match (s.side x).pipe.waiting with
    | none => .next s
    | some w => if (s.link x).hasRoom then .next (deliverAndGoOn s x w) else .next s

end Sys2Proof.Machine
end

