-- ==== Sys2Proof/Machine/Clock.lean ====
section
/-! DEFINITION. What the part does when no command waits: its own due events, and the time base (R28, R29; logs 2,
3). -/

namespace Sys2Proof.Machine

open Sys2Proof

/-- A command if a condition holds, and none otherwise. -/
def commandIf (c : Bool) (i : Instr) : List Instr := if c then [i] else []

/-- The command that takes a request of a kind from a link. -/
def RequestKind.command (k : RequestKind) (x : Side) : Instr :=
  match k with
  | .read => .read x
  | .writeSettings => .writeSettings x
  | .tableWrite => .tableWrite x
  | .tableRead => .tableRead x
  | .copyBank => .copyBank x
  | .commitBank => .commitBank x
  | .acknowledge => .acknowledge x
  | .viewRestore => .viewRestore x
  | .forceWarning => .forceWarning x
  | .warnStop => .warnStop x
  | .cameraPass => .cameraPass x
  | .sideRestart => .sideRestart x
  | .partReset => .partReset x
  | .unknown => .unknownRequest x

/-- The taking of the head request of a link, if it can be taken now. -/
def dueRequest (s : State) (x : Side) : List Instr :=
  match headRequest s x with
  | none => []
  | some r => commandIf (!restartWaits s x) (r.requestKind.command x)

/-- The events of a side and its link that are due: expiries, the delivery of a waiting line, a standalone frame
start, the taking of a request. -/
def dueOf (s : State) (x : Side) : List Instr :=
  commandIf (frameTimeoutEnabled s x) (.frameTimeoutExpiry x) ++
  commandIf (periodDue s x) (.standalonePeriodExpiry x) ++
  commandIf (displayTimeoutDue s x) (.displayTimeoutExpiry x) ++
  commandIf (canDeliver s x) (.deferredLineDelivery x) ++
  commandIf (standaloneEnabled s x) (.standaloneFrameStart x) ++
  dueRequest s x

/-- Every event that is due, in the order the part takes them (log 3). -/
def dueEvents (s : State) : List Instr :=
  commandIf (warnPulseDue s) .warnPulseExpiry ++ dueOf s .a ++ dueOf s .b

/-- A microsecond passes (R28). -/
def tick (s : State) : State := { s with timeBase := s.timeBase + 1 }

/-- The part with no command waiting: while RESET is held low nothing happens (R200); the events that are due join the
queue, and a microsecond passes only when none is due (logs 2, 3). -/
def idle (s : State) : State :=
  if s.resetHeld then s
  else
    match dueEvents s with
    | [] => tick s
    | c :: rest => { s with pending := c :: rest }

/-- A state with the command a word spells in front of its queue; the table gives no row bits, so no word spells one. -/
def queueWord (s : State) (nbits w : Nat) (decode : Nat → Nat → Option Instr) : State :=
  match decode nbits w with
  | none => s
  | some c => { s with pending := c :: s.pending }

end Sys2Proof.Machine
end

