-- ==== Sys2Proof/Machine/Dispatch.lean ====
section
/-! DEFINITION. The dispatch of a command to its meaning, one arm per constructor of Instr. -/

namespace Sys2Proof.Machine

open Sys2Proof

def exec (i : Instr) (s : State) : Host.Outcome State Fault Refusal :=
  match i with
  | .cameraFrameStart side body => Sys2Proof.Machine.execCameraFrameStart side body s
  | .cameraLine side body => Sys2Proof.Machine.execCameraLine side body s
  | .cameraFrameEnd side body => Sys2Proof.Machine.execCameraFrameEnd side body s
  | .cameraStatus side body => Sys2Proof.Machine.execCameraStatus side body s
  | .cameraUnknownKindCell side kind body => Sys2Proof.Machine.execCameraUnknownKindCell side kind body s
  | .frameTimeoutExpiry side => Sys2Proof.Machine.execFrameTimeoutExpiry side s
  | .standalonePeriodExpiry side => Sys2Proof.Machine.execStandalonePeriodExpiry side s
  | .standaloneFrameStart side => Sys2Proof.Machine.execStandaloneFrameStart side s
  | .displayTimeoutExpiry link => Sys2Proof.Machine.execDisplayTimeoutExpiry link s
  | .warnPulseExpiry => Sys2Proof.Machine.execWarnPulseExpiry s
  | .copyCompletion side => Sys2Proof.Machine.execCopyCompletion side s
  | .checkCompletion side => Sys2Proof.Machine.execCheckCompletion side s
  | .frameEndUpdateCompletion side => Sys2Proof.Machine.execFrameEndUpdateCompletion side s
  | .commandLaneTxCompletion side => Sys2Proof.Machine.execCommandLaneTxCompletion side s
  | .egressLineCompletion link => Sys2Proof.Machine.execEgressLineCompletion link s
  | .egressFrameEndCompletion link => Sys2Proof.Machine.execEgressFrameEndCompletion link s
  | .egressFrameStartCompletion link => Sys2Proof.Machine.execEgressFrameStartCompletion link s
  | .insertedCellCompletion link => Sys2Proof.Machine.execInsertedCellCompletion link s
  | .deferredLineDelivery side => Sys2Proof.Machine.execDeferredLineDelivery side s
  | .displayStatus link body => Sys2Proof.Machine.execDisplayStatus link body s
  | .request link body => Sys2Proof.Machine.execRequest link body s
  | .displayUnknownKindCell link kind body => Sys2Proof.Machine.execDisplayUnknownKindCell link kind body s
  | .read link => Sys2Proof.Machine.execRead link s
  | .writeSettings link => Sys2Proof.Machine.execWriteSettings link s
  | .tableWrite link => Sys2Proof.Machine.execTableWrite link s
  | .tableRead link => Sys2Proof.Machine.execTableRead link s
  | .copyBank link => Sys2Proof.Machine.execCopyBank link s
  | .commitBank link => Sys2Proof.Machine.execCommitBank link s
  | .acknowledge link => Sys2Proof.Machine.execAcknowledge link s
  | .viewRestore link => Sys2Proof.Machine.execViewRestore link s
  | .forceWarning link => Sys2Proof.Machine.execForceWarning link s
  | .warnStop link => Sys2Proof.Machine.execWarnStop link s
  | .cameraPass link => Sys2Proof.Machine.execCameraPass link s
  | .sideRestart link => Sys2Proof.Machine.execSideRestart link s
  | .partReset link => Sys2Proof.Machine.execPartReset link s
  | .unknownRequest link => Sys2Proof.Machine.execUnknownRequest link s
  | .resetLow => Sys2Proof.Machine.execResetLow s
  | .resetReleased => Sys2Proof.Machine.execResetReleased s
  | .parityFailure side bank word value => Sys2Proof.Machine.execParityFailure side bank word value s
  | .copyWord side => Sys2Proof.Machine.execCopyWord side s
  | .checkWord side => Sys2Proof.Machine.execCheckWord side s

end Sys2Proof.Machine
end

