-- ==== Sys2Proof/Safety.lean ====
section
/-! DEFINITION. What holds of every state the part can be in: the invariants that the spec states of the whole part,
in the terms the obligations use. -/

namespace Sys2Proof.Machine

open Sys2Proof

/-- Every command of the table answers a next state. -/
def Completes (o : Host.Outcome State Fault Refusal) : Prop := ∃ t, o = .next t

/-- FAULT is asserted exactly when a group of level 2 or 3 of either side is NONCONFORMING or has its event flag set
(R143). -/
def FaultExact (s : State) : Prop := s.fault = faultOf s

/-- WARN is ACTIVE exactly while its pulse timer runs (R40). -/
def WarnTimed (s : State) : Prop := s.warn = s.warnTimer.isSome

/-- A guard's restore-ready says what the level-3 groups say, and a guard in CLEAR, WAITING or RESTORING stands on a
restore-ready side (R154, R162). -/
def SideState.GuardReady (d : SideState) : Prop :=
  d.guard.ready = d.groups.restoreReady ∧
    (d.guard.state = .clear ∨ d.guard.state = .waiting ∨ d.guard.state = .restoring → d.guard.ready = true)

/-- m is 0 in CLEAR, 64 in HELD and WAITING and at most 64 in FADING and RESTORING, and the restore countdown is 0 in
every state other than WAITING (R153). -/
def SideState.GuardShape (d : SideState) : Prop :=
  (d.guard.state = .clear → d.guard.m = 0) ∧
    (d.guard.state = .held ∨ d.guard.state = .waiting → d.guard.m = 64) ∧
    d.guard.m ≤ 64 ∧ (d.guard.state ≠ .waiting → d.guard.countdown = 0)

/-- Every group's state is its judgement on the condition vector and its settings as they stand (R133). -/
def SideState.GroupsJudged (d : SideState) : Prop :=
  ∀ g ∈ d.groups.list, g.nonconforming = g.mismatch d.cond.vector

/-- The source is FOLLOW exactly when the side has an active bank and LINK_LOSS is false (R165); LINK_LOSS is false only
with an active bank, and the frame timeout runs exactly while LINK_LOSS is false (R34). -/
def SideState.LinkSound (d : SideState) : Prop :=
  (d.source = .follow ↔ d.store.active.isSome = true ∧ d.cond.linkLoss = false) ∧
    (d.cond.linkLoss = false → d.store.active.isSome = true) ∧ d.frameTimer.isSome = !d.cond.linkLoss

/-- NO_TABLES is true exactly while no bank is active and TABLE_PARITY exactly while the parity record holds a first
failure; the frame size in use is present exactly while a bank is active; an operation in flight has a progress of at
most 706, excludes a pending commit, and a copy has an active bank to copy (R45, R51, R55, R58, R62, R64). -/
def SideState.BankSound (d : SideState) : Prop :=
  d.cond.noTables = d.store.active.isNone ∧ d.cond.tableParity = d.store.parity.first.isSome ∧
    d.store.frameSize.isSome = d.store.active.isSome ∧
    ∀ op, d.store.op = some op →
      op.progress ≤ Config.bankWords ∧ d.store.commitPending = false ∧
        (op.kind = .copy → d.store.active.isSome = true)

/-- Both banks are in their canonical form. -/
def SideState.BanksCanonical (d : SideState) : Prop := d.store.bank0.wf = true ∧ d.store.bank1.wf = true

/-- The first line that the frame in progress has not handed on yet: the next line of a cell or an expiry that is
unfinished, or n. -/
def SideState.reached (d : SideState) : Nat :=
  match d.pipe.waiting with
  | some ⟨_, .cell y _⟩ => y
  | some ⟨_, .expiry y⟩ => y
  | _ => d.recv.expected

/-- A cell in handling, which is never a CAMERA STATUS, fills lines only while RECEIVING, up to its own line below H
or up to H (R10, R17); an expiry that is unfinished finds the receiver RECEIVING and fills up to H (R21); and a SIDE
RESTART that has left lines has made it leave RECEIVING (R27). -/
def SideState.waitingSound (d : SideState) : Bool :=
  match d.pipe.waiting with
  | none => true
  | some ⟨_, .handled⟩ => true
  | some ⟨_, .cell y c⟩ =>
    decide (d.recv.state = .receiving) && decide (c.kind ≠ .status) && decide (y ≤ d.fillStop c) &&
      (decide (c.kind ≠ .line) || decide (d.fillStop c < d.frameHeight))
  | some ⟨_, .expiry y⟩ => decide (d.recv.state = .receiving) && decide (y ≤ d.frameHeight)
  | some ⟨_, .abandoned _⟩ => decide (d.recv.state ≠ .receiving)

/-- While RECEIVING, the source is FOLLOW, the lines handed on are at most H, and every line counted damaged or
missing is one of them (R2, R12, R15, R165); and what a waiting line has left to be done is as the receiver stands. -/
def SideState.ReceiverSound (d : SideState) : Prop :=
  (d.recv.state = .receiving →
    d.source = .follow ∧ d.reached ≤ d.frameHeight ∧ d.recv.damaged + d.recv.missing ≤ d.reached) ∧
  d.waitingSound = true

/-- The counts of a side that saturate stay within their ranges (R2, R19, R50, R115). -/
def SideState.CountsSound (d : SideState) : Prop :=
  d.recv.discarded ≤ 65535 ∧ d.recv.freeze ≤ 255 ∧ d.store.parity.count ≤ 255

/-- CAMERA_FAULT and TEMP_HIGH say what the camera status record says under the settings (R25). -/
def SideState.CameraJudged (d : SideState) : Prop :=
  d.cond.cameraFault = (d.status.valid && (d.status.faults &&& d.settings.cameraFaultMask != 0)) ∧
    d.cond.tempHigh = (d.status.valid && decide (d.settings.tempLimit < d.status.temperature.toInt))

/-- DISPLAY_FAULT of a side says what the display status record of its link says (R181). -/
def DisplayJudged (s : State) (x : Side) : Prop :=
  (s.side x).cond.displayFault =
    ((s.link x).display.silent || ((s.link x).display.faults &&& (s.side x).settings.displayFaultMask != 0))

/-- The queues of a link hold at most what the spec gives them: 4 requests, 8 responses, 4 lines (R174, R182, R183). -/
def LinkState.QueuesBounded (l : LinkState) : Prop :=
  l.requests.length ≤ Config.requestSlots ∧ l.responses.length ≤ Config.responseSlots ∧
    l.buffer.length ≤ Config.bufferLines

/-- The pass-through queue holds at most 4 cells (R126). -/
def SideState.PassBounded (d : SideState) : Prop := d.exposure.passQueue.length ≤ Config.passSlots

/-- The reserved slots of a response queue. -/
def LinkState.reservedSlots (l : LinkState) : Nat := (l.responses.filter (· == .reserved)).length

/-- The operations in flight that were taken from a link. -/
def opsFrom (s : State) (x : Side) : Nat := (s.sideA.store.opFrom x).toNat + (s.sideB.store.opFrom x).toNat

/-- Every slot that stays reserved belongs to the one operation in flight taken from the link (R183, R184). -/
def SlotsAccounted (s : State) (x : Side) : Prop :=
  (s.link x).reservedSlots = opsFrom s x ∧ opsFrom s x ≤ 1

/-- What the egress side holds of a side's follow lines, in the order they were developed: the egress line buffer and
the line that waits for room in it (R174). -/
def egressLines (s : State) (x : Side) : List OutLine :=
  (s.link x).buffer ++ ((s.side x).pipe.waiting.map Waiting.line).toList

/-- The number of further lines that the egress line buffer takes (R174). -/
def LinkState.room (l : LinkState) : Nat := Config.bufferLines - l.buffer.length

/-- The commands of the RESET pin, which alone act while RESET is held low (R200, R201). -/
def isResetPin : Instr → Bool
  | .resetLow => true
  | .resetReleased => true
  | .cameraFrameStart _ _ => false
  | .cameraLine _ _ => false
  | .cameraFrameEnd _ _ => false
  | .cameraStatus _ _ => false
  | .cameraUnknownKindCell _ _ _ => false
  | .frameTimeoutExpiry _ => false
  | .standalonePeriodExpiry _ => false
  | .standaloneFrameStart _ => false
  | .displayTimeoutExpiry _ => false
  | .warnPulseExpiry => false
  | .copyCompletion _ => false
  | .checkCompletion _ => false
  | .frameEndUpdateCompletion _ => false
  | .commandLaneTxCompletion _ => false
  | .egressLineCompletion _ => false
  | .egressFrameEndCompletion _ => false
  | .egressFrameStartCompletion _ => false
  | .insertedCellCompletion _ => false
  | .deferredLineDelivery _ => false
  | .displayStatus _ _ => false
  | .request _ _ => false
  | .displayUnknownKindCell _ _ _ => false
  | .read _ => false
  | .writeSettings _ => false
  | .tableWrite _ => false
  | .tableRead _ => false
  | .copyBank _ => false
  | .commitBank _ => false
  | .acknowledge _ => false
  | .viewRestore _ => false
  | .forceWarning _ => false
  | .warnStop _ => false
  | .cameraPass _ => false
  | .sideRestart _ => false
  | .partReset _ => false
  | .unknownRequest _ => false
  | .parityFailure _ _ _ _ => false
  | .copyWord _ => false
  | .checkWord _ => false

/-! ## What an effect leaves alone -/

/-- A group with its state and event flag left out of account. -/
def Group.besideState (g : Group) : Group := { g with nonconforming := false, flag := false }

/-- A side with its group states, event flags and view guard left out of account. -/
def SideState.besideSupervision (d : SideState) : SideState :=
  { d with groups := d.groups.map Group.besideState, guard := ⟨.held, 64, 0, false⟩ }

/-- The part with the outcome of an evaluation of a side left out of account: the side's group states, event flags and
guard, FAULT, WARN with its timer, and the side's report-pending flags. Two states that agree here differ in nothing
else (R135, R136, R143, R145, R147). -/
def State.besideSupervision (s : State) (x : Side) : State :=
  ((({ s with fault := false, warn := false, warnTimer := none }).onSide x SideState.besideSupervision).onLink .a
    (·.setReport x false)).onLink .b (·.setReport x false)

/-- A link with its forward lane and all that waits for it left out of account. -/
def LinkState.besideEgress (l : LinkState) : LinkState :=
  { l with
    lane := .idle, frames := [], buffer := [], waitingStarts := [], run := none, responses := []
    reportA := false, reportB := false }

/-- The part with the egress side of a link left out of account (R172 to R178). -/
def State.besideEgress (s : State) (x : Side) : State := s.onLink x LinkState.besideEgress

/-- A side with the line that waits in its pipeline left out of account. -/
def SideState.besideWaiting (d : SideState) : SideState := d.setWaiting none

/-- The part with the delivery of a side's lines left out of account: the egress side of its link, and the line that
waits in its pipeline (R174). -/
def State.besideDelivery (s : State) (x : Side) : State := (s.besideEgress x).onSide x SideState.besideWaiting

/-! ## Requests taken -/

/-- The request r stands at the head of a link's request queue and can be taken (R183, R184): RESET is released, no copy
or check taken from the link is in flight, and the response queue has a free slot. -/
def CanTake (s : State) (x : Side) (r : Request) : Prop :=
  s.resetHeld = false ∧ opsFrom s x = 0 ∧ (s.link x).responses.length < Config.responseSlots ∧
    (s.link x).requests.head? = some r

/-- The request has left the request queue and its slot holds a ready response (R183). -/
def answered (s : State) (x : Side) (r : Response) : State :=
  s.onLink x fun l => { l with requests := l.requests.drop 1, responses := l.responses ++ [.ready r] }

/-- The parity record after an occasion on which the words of bank i were read in the order given: a first failure is
kept once present, and each failed word adds 1 to the count, which saturates at 255 (R50). -/
def ParityRecord.found (p : ParityRecord) (i : BankId) (bank : Bank) (words : List Nat) : ParityRecord :=
  match words.filter fun w => (bank.read w).failed with
  | [] => p
  | w :: rest => ⟨some (p.first.getD ⟨i, wordTable w, wordIndex w⟩), min 255 (p.count + (rest.length + 1))⟩

/-! ## Commands in a row -/

/-- Commands executed one after another. -/
def runCommands : List Instr → State → Host.Outcome State Fault Refusal
  | [], s => .next s
  | i :: rest, s =>
    match exec i s with
    | .next t => runCommands rest t
    | .fault f => .fault f
    | .refused r => .refused r

/-- The command that brings a cell of a camera link. -/
def CameraCell.command (c : CameraCell) (x : Side) : Instr :=
  match c.kind with
  | .frameStart => .cameraFrameStart x c.body
  | .line => .cameraLine x c.body
  | .frameEnd => .cameraFrameEnd x c.body
  | .status => .cameraStatus x c.body

/-- The taking of a SIDE RESTART of side x, if one stands at the head of a link's request queue. -/
def restartAtHead (s : State) (x link : Side) : List Instr :=
  match (s.link link).requests with
  | [] => []
  | r :: _ => if r.kind = 0x0C ∧ r.names = some x then [.sideRestart link] else []

/-- What waits for the handling of a cell of side x to complete, in the order it is then taken: the expiry of the frame
timeout, a SIDE RESTART of the side on link A and on link B, and the cells held (R21, R27, R174; log 7). -/
def afterHandling (s : State) (x : Side) : List Instr :=
  [.frameTimeoutExpiry x] ++ restartAtHead s x .a ++ restartAtHead s x .b ++
    (s.side x).recv.held.map fun c => c.command x

/-! ## The view guard (R155 to R160) -/

/-- The guard of a side after a trip that finds it not restore-ready (R155, R156): gone says that LINK_LOSS, FORMAT or
NO_TABLES is true. -/
def Guard.tripped (g : Guard) (gone : Bool) : Guard :=
  match g.state with
  | .clear => if gone then ⟨.held, 64, 0, false⟩ else ⟨.fading, g.m, 0, false⟩
  | .restoring => if gone then ⟨.held, 64, 0, false⟩ else ⟨.fading, g.m, 0, false⟩
  | .waiting => ⟨.held, 64, 0, false⟩
  | .fading => { g with ready := false }
  | .held => { g with ready := false }

/-- A trip starts a WARN pulse when it finds the guard in one of these states (R145, R157). -/
def Guard.canTrip (g : Guard) : Bool :=
  match g.state with
  | .clear => true
  | .restoring => true
  | .waiting => true
  | .fading => false
  | .held => false

/-- The guard after the step of an egress frame start (R158); a fade that ends on a restore-ready side goes on under
AUTO to WAITING, or to RESTORING with RestoreFrames 0 (R159). -/
def Guard.stepped (g : Guard) (k : Settings) : Guard :=
  match g.state with
  | .fading =>
    if g.m + k.fadeStep < 64 then { g with m := g.m + k.fadeStep, countdown := 0 }
    else if g.ready = true ∧ k.restoreMode = .auto then
      ⟨if k.restoreFrames = 0 then .restoring else .waiting, 64, k.restoreFrames, true⟩
    else ⟨.held, 64, 0, g.ready⟩
  | .restoring =>
    if g.m ≤ k.fadeStep then ⟨.clear, 0, 0, g.ready⟩ else { g with m := g.m - k.fadeStep, countdown := 0 }
  | .clear => g
  | .held => g
  | .waiting => g

/-- The guard after the end of an accepted frame that was not abandoned (R160). -/
def Guard.counted (g : Guard) : Guard :=
  match g.state with
  | .waiting => if g.countdown ≤ 1 then ⟨.restoring, 64, 0, g.ready⟩ else { g with m := 64, countdown := g.countdown - 1 }
  | .clear => g
  | .fading => g
  | .held => g
  | .restoring => g

/-! ## Values -/

/-- The value that setting n holds, as a READ of SETTINGS returns it, after a write of v (R192, R193, R212). -/
def convertedSetting (n : Nat) (v : Word) : Word :=
  let range := fun lo hi : Nat => BitVec.ofNat 32 (max lo (min hi v.toNat))
  let choice : Word := if v = 0 then 0 else 1
  match n with
  | 0 => range 10 1000
  | 1 => range 10000 100000
  | 2 => range 0 10000
  | 3 => if v.toNat ≤ 2 then 1 else if v.toNat ≤ 9 then 4 else 16
  | 4 => range 10000 100000
  | 5 => range 0 255
  | 6 => range 0 255
  | 7 => choice
  | 8 => range 2 255
  | 9 => range 1 15
  | 10 => BitVec.ofInt 32 (max (-40) (min 150 v.toInt))
  | 11 => range 10 1000
  | 12 => range 1 192
  | 13 => range 1 255
  | 14 => v &&& 0xFF
  | 15 => v &&& 0xFF
  | 16 => choice
  | 17 => choice
  | 18 => range 0 255
  | 19 => range 1 64
  | 20 | 21 | 23 | 24 | 26 | 27 | 29 | 30 => v &&& 0xFFFF
  | 22 | 25 | 28 | 31 => range 0 3
  | _ => range 100 5000

/-- The lines n, n + 1, … that a fill of count lines hands on when the last-good-line buffer holds px (R15, R85). -/
def filledLines (d : SideState) (n count : Nat) : List OutLine :=
  (List.range count).map fun k => shapeLine d.pipe.inUse d.pipe.shaping (n + k) d.recv.lastGood

/-- The gathering buffer after the tap has taken lines y, y + 1, …, count of them, each with the stage-3 values px (R15,
R90). -/
def filledTaps (v : FrameValues) (px : List Rgb) (y count : Nat) (g : Gathering) : Gathering :=
  (List.range count).foldl (fun g k => tapLine v (y + k) px g) g

/-- Every stage-5 and stage-6 value in use lies within one byte: the tone entries, Wv and the fade factor (R47, R71). -/
def FrameValues.InRange (v : FrameValues) (fade : Nat) : Prop :=
  (∀ i, v.tone i ≤ 255) ∧ v.wv.r ≤ 255 ∧ v.wv.g ≤ 255 ∧ v.wv.b ≤ 255 ∧ fade ≤ 64

/-- Every component of a pixel lies in 0 to 255. -/
def isBytePixel (p : Rgb) : Prop := p.r ≤ 255 ∧ p.g ≤ 255 ∧ p.b ≤ 255

end Sys2Proof.Machine
end

