-- ==== Sys2Proof/Certificates/Slice0/Obligations.lean ====
section
/-! DEFINITION. The statements for the provers. Each docstring names the rules of spec/ it formalises; a clause that
rests on a choice of the model names the log entry. -/

open Sys2Proof Sys2Proof.Machine

/-! ## The part as a machine -/

/-- A step executes the command at the front of the queue on the state with the queue's rest. -/
def Obligations.StepRunsFrontCommand : Prop :=
  ∀ (c : Instr) (rest : List Instr) (s : State),
    step { s with pending := c :: rest } = exec c { s with pending := rest }

/-- With an empty queue the part idles: nothing while RESET is held low; else the due events join the queue, and a
microsecond passes when none is due. The model's choice: logs 2 and 3. -/
def Obligations.IdleStep : Prop :=
  ∀ s : State, s.pending = [] →
    (s.resetHeld = true → step s = .next s) ∧
    (s.resetHeld = false → dueEvents s = [] → step s = .next { s with timeBase := s.timeBase + 1 }) ∧
    (s.resetHeld = false → dueEvents s ≠ [] → step s = .next { s with pending := dueEvents s })

/-- Every command of the table answers a next state, and no command touches the queue of the commands that wait
(95_what_each_step_holds: each step is whole). That a command whose event cannot take place answers next is the model's
choice (log 1), and so is it that PART_RESET and RESET_LOW keep the queue (log 29). -/
def Obligations.EveryCommandCompletes : Prop :=
  ∀ (i : Instr) (s : State), ∃ t, exec i s = .next t ∧ t.pending = s.pending

/-- RESET low puts the part into its reset state with cause POWER, from every state, and holds it there; the release
makes it run from the reset values (R200, R201). While RESET is held low no command but those of the RESET pin changes
anything (R200); that this holds of a PARITY_FAILURE too is the model's deduction (log 25). The commands that wait are
kept (log 29). -/
def Obligations.ResetPin : Prop :=
  (∀ s : State, ∃ t, exec .resetLow s = .next t ∧ t.resetHeld = true ∧ t.notice = some .power ∧ t.timeBase = 0 ∧
    t.fault = true ∧ t.warn = false ∧ t.linkA.displayTimer = none ∧ t.linkB.displayTimer = none ∧
    t.pending = s.pending ∧ exec .resetReleased t = .next { State.reset with pending := s.pending }) ∧
  (∀ s : State, s.resetHeld = true → ∃ t, exec .resetReleased s = .next t ∧ t.resetHeld = false ∧
    t.timeBase = s.timeBase ∧ (∀ x, (t.link x).displayTimer = some s.timeBase) ∧
    (∀ x, (t.side x).standaloneDue = true) ∧ t.pending = s.pending) ∧
  (∀ (i : Instr) (s : State), s.resetHeld = true → isResetPin i = false → exec i s = .next s)

/-- RESET low, and a PART RESET that is taken, give each side the values of the tables of R44, R87, R106 and R128: every
word of its banks 0 with good parity and its bank state emptied, the pipeline, the statistics and glare state and the
exposure state at their reset values, and no response left in any queue. They give the receiver, the camera status
record and the conditions the values of R26 and R149, the timing record and the timers those of R42, the groups those of
R149 as the start-up evaluation leaves them, with G0 NONCONFORMING, its event flag set, the reports pending on both
links and FAULT asserted (R150), the view guard and the source those of R170, each display link those of R185, and the
settings those of R192. A PART RESET starts the display timeouts; while RESET is held low no timer runs (R200). -/
def Obligations.ResetValues : Prop :=
  ∀ (i : Instr) (s : State), (i = .resetLow ∨ ∃ x r, i = .partReset x ∧ CanTake s x r ∧ r.kind = 0x0D) →
    ∃ t, exec i s = .next t ∧ t.timeBase = 0 ∧ t.warn = false ∧ t.warnTimer = none ∧ t.warnPulseWidth = 1000 ∧
      t.fault = true ∧ t.notice = some (if i = .resetLow then .power else .request) ∧ ∀ y,
      let d := t.side y
      let l := t.link y
      (∀ b w, (d.store.bank b).read w = ⟨0, false⟩) ∧ d.store.active = none ∧ d.store.shadow = .bank0 ∧
      d.store.commitPending = false ∧ d.store.op = none ∧ d.store.frameSize = none ∧ d.store.scrub = 0 ∧
      d.store.parity.first = none ∧ d.store.parity.count = 0 ∧ d.cond.tableParity = false ∧ d.cond.noTables = true ∧
      l.responses = [] ∧
      d.pipe.values = none ∧ d.pipe.map = List.replicate 192 0 ∧ d.pipe.knee = 4095 ∧ d.pipe.nextReady = false ∧
      d.pipe.fade = 64 ∧ d.pipe.waiting = none ∧
      d.stats.gathering.gathering = false ∧ d.stats.gathering.tiles = List.replicate 192 ⟨0, 0⟩ ∧
      d.stats.published.full = false ∧ d.stats.published.tiles = List.replicate 192 ⟨0, 0⟩ ∧ d.glare.update = none ∧
      d.glare.night = .day ∧ d.glare.counter = 0 ∧ d.glare.target = List.replicate 192 0 ∧
      d.glare.current = List.replicate 192 0 ∧ d.glare.next = List.replicate 192 0 ∧ d.glare.zoneCount = 0 ∧
      d.cond.glareWide = false ∧ d.settings.zoneLimit = 96 ∧
      d.exposure.index = none ∧ d.exposure.limits = none ∧ d.exposure.last = none ∧ d.exposure.tag = 0 ∧
      d.exposure.slot = .empty ∧ d.exposure.pinned = 0 ∧ d.cond.exposurePinned = false ∧ d.cond.cameraNoAck = false ∧
      d.exposure.passQueue = [] ∧ d.exposure.lane = .idle ∧ d.settings.ackFrames = 4 ∧ d.settings.pinnedFrames = 30 ∧
      d.recv.state = .waitStart ∧ d.recv.expected = 0 ∧ d.recv.frameNumber = 0 ∧ d.recv.damaged = 0 ∧
      d.recv.missing = 0 ∧ d.recv.discarded = 0 ∧ d.recv.signature = 0 ∧ d.recv.freeze = 0 ∧
      d.recv.prevSignature = none ∧ d.recv.prevFrame = none ∧ (∀ p ∈ d.recv.lastGood, p = ⟨0, 0, 0⟩) ∧
      d.recv.held = [] ∧
      d.status.tag = 0 ∧ d.status.exposure = 0 ∧ d.status.temperature = 0 ∧ d.status.faults = 0 ∧
      d.status.frameNumber = 0 ∧ d.status.damagedOnStore = false ∧ d.status.valid = false ∧
      d.timing.last = 0 ∧ d.timing.reference = none ∧ d.timing.divider = 0 ∧ d.timing.interval = none ∧
      d.timing.unread = false ∧ d.timing.overrun = false ∧ d.frameTimer = none ∧ d.periodTimer = none ∧
      (i ≠ .resetLow → l.displayTimer = some 0) ∧ (i = .resetLow → l.displayTimer = none) ∧
      d.cond.linkLoss = true ∧ d.cond.format = false ∧ d.cond.lineMissing = false ∧ d.cond.frozen = false ∧
      d.cond.lineCrc = false ∧ d.cond.frameInterval = false ∧ d.cond.statusCksum = false ∧
      d.cond.cameraFault = false ∧ d.cond.tempHigh = false ∧ d.cond.displayFault = false ∧ d.cond.forced = false ∧
      d.groups.g0 = ⟨0xE00F, 0, 3, true, true⟩ ∧ d.groups.g1 = ⟨0x13A0, 0, 2, false, false⟩ ∧
      d.groups.g2 = ⟨0x0C50, 0, 1, false, false⟩ ∧ d.groups.g3 = ⟨0, 0, 0, false, false⟩ ∧
      d.guard.state = .held ∧ d.guard.m = 64 ∧ d.guard.countdown = 0 ∧ d.guard.ready = false ∧
      d.source = .standalone ∧
      l.lane = .idle ∧ l.number = 0 ∧ l.frames = [] ∧ l.buffer = [] ∧ l.waitingStarts = [] ∧ l.run = none ∧
      l.requests = [] ∧ l.display.faults = 0 ∧ l.display.temperature = 0 ∧ l.display.silent = false ∧
      l.display.discarded = 0 ∧ l.reportA = true ∧ l.reportB = true ∧
      d.settings.frameTimeout = 100 ∧ d.settings.nominalInterval = 33333 ∧ d.settings.intervalTolerance = 2000 ∧
      d.settings.captureDivider = 4 ∧ d.settings.standalonePeriod = 33333 ∧ d.settings.crcMax = 4 ∧
      d.settings.missingMax = 8 ∧ d.settings.lineCrcPolicy = .conceal ∧ d.settings.freezeFrames = 8 ∧
      d.settings.tempLimit = 105 ∧ d.settings.displayTimeout = 200 ∧ d.settings.cameraFaultMask = 0xFF ∧
      d.settings.displayFaultMask = 0xFF ∧ d.settings.statusStore = .checked ∧ d.settings.restoreMode = .auto ∧
      d.settings.restoreFrames = 30 ∧ d.settings.fadeStep = 8

/-- The state after reset satisfies every invariant stated below. -/
def Obligations.InvariantsAtReset : Prop :=
  FaultExact State.reset ∧ WarnTimed State.reset ∧
  (∀ x, (State.reset.side x).GuardReady ∧ (State.reset.side x).GuardShape ∧ (State.reset.side x).GroupsJudged ∧
    (State.reset.side x).LinkSound ∧ (State.reset.side x).BankSound ∧ (State.reset.side x).BanksCanonical ∧
    (State.reset.side x).ReceiverSound ∧ (State.reset.side x).CountsSound ∧ (State.reset.side x).CameraJudged ∧
    (State.reset.side x).PassBounded ∧ DisplayJudged State.reset x ∧ (State.reset.link x).QueuesBounded ∧
    SlotsAccounted State.reset x)

/-! ## Invariants that every step keeps -/

/-- FAULT stays exact (R143), and WARN stays ACTIVE exactly while its timer runs (R40), across every step. -/
def Obligations.PinsExactKept : Prop :=
  ∀ s t : State, FaultExact s → WarnTimed s → step s = .next t → FaultExact t ∧ WarnTimed t

/-- Restore-readiness stays what the level-3 groups say, and a guard in CLEAR, WAITING or RESTORING stays on a
restore-ready side, across every step (R154, R162); and m and the restore countdown keep to the guard's state (R153). -/
def Obligations.GuardSoundKept : Prop :=
  (∀ s t : State, (∀ x, (s.side x).GuardReady) → step s = .next t → ∀ x, (t.side x).GuardReady) ∧
  (∀ s t : State, (∀ x, (s.side x).GuardShape) → step s = .next t → ∀ x, (t.side x).GuardShape)

/-- Every group's state stays its judgement on the vector and the settings as they stand, across every step: no change
of a condition or of a group setting goes unevaluated (R130, R133, R134). CAMERA_FAULT, TEMP_HIGH and DISPLAY_FAULT stay
what the stored records say under the settings (R25, R181). -/
def Obligations.JudgementsKept : Prop :=
  (∀ s t : State, (∀ x, (s.side x).GroupsJudged) → step s = .next t → ∀ x, (t.side x).GroupsJudged) ∧
  (∀ s t : State, (∀ x, (s.side x).CameraJudged ∧ DisplayJudged s x) → step s = .next t →
    ∀ x, (t.side x).CameraJudged ∧ DisplayJudged t x)

/-- The source stays FOLLOW exactly while the side has an active bank and LINK_LOSS is false, and the frame timeout runs
exactly while LINK_LOSS is false, across every step (R34, R165). While RECEIVING, the source is FOLLOW, the lines handed
on are at most H, and the lines counted damaged and missing are among them; only a FRAME START, a LINE, a FRAME END or
an expiry of the frame timeout in a frame in progress fills lines, and never beyond its own line or H; the saturating
counts stay in range (R2, R10, R12, R15, R17, R19, R50). -/
def Obligations.LinkAndReceiverKept : Prop :=
  (∀ s t : State, (∀ x, (s.side x).LinkSound) → step s = .next t → ∀ x, (t.side x).LinkSound) ∧
  (∀ s t : State, (∀ x, (s.side x).ReceiverSound ∧ (s.side x).CountsSound) → step s = .next t →
    ∀ x, (t.side x).ReceiverSound ∧ (t.side x).CountsSound)

/-- NO_TABLES, TABLE_PARITY, the frame size in use, the operation in flight and the pending commit stay as the Table
Store says, across every step (R45, R51, R55, R58, R62, R64); and all four banks stay in their canonical form. -/
def Obligations.BanksKept : Prop :=
  (∀ s t : State, (∀ x, (s.side x).BankSound) → step s = .next t → ∀ x, (t.side x).BankSound) ∧
  (∀ s t : State, (∀ x, (s.side x).BanksCanonical) → step s = .next t → ∀ x, (t.side x).BanksCanonical)

/-- The request queue, the response queue, the egress line buffer and the pass-through queue never hold more than the
spec gives them (R126, R174, R182, R183); and a slot stays reserved exactly for the one operation in flight taken from
its link (R183, R184); across every step. -/
def Obligations.QueuesKept : Prop :=
  (∀ s t : State, (∀ x, (s.link x).QueuesBounded ∧ (s.side x).PassBounded) → step s = .next t →
    ∀ x, (t.link x).QueuesBounded ∧ (t.side x).PassBounded) ∧
  (∀ s t : State, (∀ x, SlotsAccounted s x) → step s = .next t → ∀ x, SlotsAccounted t x)

/-! ## Camera link -/

/-- A damaged or malformed FRAME START is discarded in every receiver state and changes nothing (R3). -/
def Obligations.FrameStartDamagedDiscarded : Prop :=
  ∀ (x : Side) (body : List Byte) (s : State), (s.side x).pipe.waiting = none → cellGood 0x01 8 body = false →
    exec (.cameraFrameStart x body) s = .next s

/-- An undamaged FRAME START outside a frame. A pending commit swaps first (R4 step 2, R61); s0 is the state after it.
With no active bank the receiver goes to DISCARDING and nothing else changes (R5). With an active bank its words 0 to
490 are taken, each as the value used for it, with their findings, and its words 0 and 1 become the frame size in use
(R49, R50). With another size than theirs in the cell, FORMAT becomes true, the receiver goes to DISCARDING, and the
frame timeout, the timing record, the exposure state, the counts, the source, the frame values in use and the egress
side, all but the report-pending flags, stay as they were (R6). -/
def Obligations.FrameStartRejected : Prop :=
  ∀ (x : Side) (body : List Byte) (s : State), s.resetHeld = false → (s.side x).pipe.waiting = none →
    (s.side x).recv.state ≠ .receiving → cellGood 0x01 8 body = true →
    let s0 := swapIfPending s x
    let d := s0.side x
    (d.store.active = none →
      exec (.cameraFrameStart x body) s =
        .next (s0.onSide x fun d => { d with recv := { d.recv with state := .discarding } })) ∧
    (∀ i, d.store.active = some i →
      let taken := fun w => ((d.store.bank i).read w).used w
      (fsWidth body, fsHeight body) ≠ (taken 0, taken 1) →
      ∃ t, exec (.cameraFrameStart x body) s = .next t ∧
        (t.side x).store.frameSize = some (taken 0, taken 1) ∧
        (t.side x).store.parity = d.store.parity.found i (d.store.bank i) (List.range 491) ∧
        (t.side x).cond.tableParity =
          (d.cond.tableParity || (List.range 491).any fun w => ((d.store.bank i).read w).failed) ∧
        (t.side x).cond.format = true ∧ (t.side x).recv.state = .discarding ∧
        (t.side x).cond.linkLoss = d.cond.linkLoss ∧ (t.side x).frameTimer = d.frameTimer ∧
        (t.side x).timing = d.timing ∧ (t.side x).exposure = d.exposure ∧ (t.side x).source = d.source ∧
        (t.side x).pipe.values = d.pipe.values ∧ (t.side x).recv.frameNumber = d.recv.frameNumber ∧
        (t.side x).recv.damaged = d.recv.damaged ∧ (t.side x).recv.missing = d.recv.missing ∧
        (t.side x).recv.discarded = d.recv.discarded ∧
        (∀ y, t.link y = { s0.link y with reportA := (t.link y).reportA, reportB := (t.link y).reportB }) ∧
        (∀ y, y ≠ x → t.side y = s.side y))

/-- An undamaged FRAME START of the right size outside a frame is accepted. A pending commit swaps first (R4 step 2,
R61); s0 is the state after it. FORMAT and LINK_LOSS become false, the current frame number is the cell's, the counts
and the signature accumulator become 0, the receiver is RECEIVING with n = 0 (R7); the frame timeout is restarted (R34),
a capture is taken and judged (R30, R31); the frame values are the words 0 to 490 of the active bank, each as the value
used for it, taken with their findings, and its words 0 and 1 become the frame size in use (R49, R50, R68); the source
becomes FOLLOW and the standalone period timer stops (R36, R165). The ack counter of a SENT slot advances; at AckFrames
CAMERA_NO_ACK becomes true and the command is sent again, at once on an idle lane (R121). The guard steps after the one
evaluation of the acceptance (R158, R213), which leaves it alone if no condition changes; the pipeline takes a ready
next map with its knee (R70) and the guard's m (R71). The FRAME START of R173 is built with the link's number, which
advances, and waits behind those that wait already; a standalone frame in progress is cut short (R167) and the follow
frame joins behind it. On an idle lane with nothing in progress it is sent at once (R172). The other side keeps
everything. -/
def Obligations.FrameStartAccepted : Prop :=
  ∀ (x : Side) (body : List Byte) (s : State), s.resetHeld = false → (s.side x).pipe.waiting = none →
    (s.side x).recv.state ≠ .receiving → cellGood 0x01 8 body = true →
    let s0 := swapIfPending s x
    let d := s0.side x
    let l := s0.link x
    ∀ i, d.store.active = some i →
    let taken := fun k => ((d.store.bank i).read k).used k
    let w := taken 0
    let h := taken 1
    fsWidth body = w → fsHeight body = h →
    ∃ t, exec (.cameraFrameStart x body) s = .next t ∧
      let e := t.side x
      let m := t.link x
      e.cond.format = false ∧ e.cond.linkLoss = false ∧ e.cond.frameInterval = d.intervalJudged s.timeBase ∧
      e.recv.state = .receiving ∧ e.recv.expected = 0 ∧ e.recv.frameNumber = cellByte body 1 ∧ e.recv.damaged = 0 ∧
      e.recv.missing = 0 ∧ e.recv.discarded = 0 ∧ e.recv.signature = 0 ∧
      e.frameTimer = some s.timeBase ∧ e.timing.last = s.timeBase ∧
      e.timing = d.timing.capture s.timeBase d.settings.captureDivider ∧
      e.pipe.values = some ((List.range 491).map taken) ∧ e.store.frameSize = some (w, h) ∧
      e.store.parity = d.store.parity.found i (d.store.bank i) (List.range 491) ∧
      e.cond.tableParity =
        (d.cond.tableParity || (List.range 491).any fun k => ((d.store.bank i).read k).failed) ∧
      e.source = .follow ∧ e.periodTimer = none ∧ e.standaloneDue = false ∧
      (∀ tag index acks, d.exposure.slot = .sent tag index acks →
        (acks + 1 < d.settings.ackFrames →
          e.exposure = { d.exposure with slot := .sent tag index (acks + 1) } ∧
          e.cond.cameraNoAck = d.cond.cameraNoAck) ∧
        (d.settings.ackFrames ≤ acks + 1 → e.cond.cameraNoAck = true ∧
          (d.exposure.lane ≠ .idle → e.exposure = { d.exposure with slot := .waitingTx tag index }) ∧
          (d.exposure.lane = .idle →
            e.exposure =
              { d.exposure with slot := .sent tag index 0, lane := .exposure (exposureCell tag index) }))) ∧
      ((∀ tag index acks, d.exposure.slot ≠ .sent tag index acks) →
        e.exposure = d.exposure ∧ e.cond.cameraNoAck = d.cond.cameraNoAck) ∧
      (d.store.frameSize = some (w, h) → e.pipe.map = if d.pipe.nextReady then d.glare.next else d.pipe.map) ∧
      (∀ size, d.store.frameSize = some size → size ≠ (w, h) → e.pipe.map = zeroMap) ∧
      e.pipe.knee = (if d.pipe.nextReady then d.glare.nextKnee else d.pipe.knee) ∧ e.pipe.nextReady = false ∧
      (e.cond = d.cond → e.guard = d.guard.stepped d.settings) ∧
      e.pipe.fade = e.guard.m ∧ m.number = l.number + 1 ∧ m.frames.length = l.frames.length + 1 ∧
      (let start : FrameStartCell := ⟨l.number, .follow, decide (0 < e.pipe.fade), w, h⟩
      (l.lane ≠ .idle →
        m.lane = l.lane ∧ m.waitingStarts = l.waitingStarts ++ [start] ∧
        m.frames =
          (l.frames.map fun f => if f.source = .standalone then { f with ended := true } else f) ++
            [⟨.follow, w, h, Rgb.black, 0, false⟩]) ∧
      (l.lane = .idle → l.frames = [] → l.waitingStarts = [] →
        m.lane = .sending .frameStart start.bytes ∧ m.waitingStarts = [start] ∧
        m.frames = [⟨.follow, w, h, Rgb.black, 0, false⟩])) ∧
      (∀ y, y ≠ x → t.side y = s.side y)

/-- A LINE cell is discarded outside RECEIVING and changes nothing (R8). In RECEIVING, with n at H any LINE cell (R14),
and before that an undamaged one with k < n or k at or beyond H (R11), is discarded: the discarded count rises by 1 and
saturates at 65,535, and nothing else changes. -/
def Obligations.LineDiscarded : Prop :=
  ∀ (x : Side) (body : List Byte) (s : State), s.resetHeld = false → (s.side x).pipe.waiting = none →
    ((s.side x).recv.state ≠ .receiving → exec (.cameraLine x body) s = .next s) ∧
    ((s.side x).recv.state = .receiving →
      (s.side x).frameHeight ≤ (s.side x).recv.expected ∨
        (crcChecks 0x02 body = true ∧ lineLengthOk (s.side x).frameWidth body = true ∧
          (lineNumber body < (s.side x).recv.expected ∨ (s.side x).frameHeight ≤ lineNumber body)) →
      exec (.cameraLine x body) s =
        .next (s.onSide x fun d =>
          { d with recv := { d.recv with discarded := min 65535 (d.recv.discarded + 1) } }))

/-- An undamaged LINE cell in RECEIVING with n ≤ k < H: the lines n to k - 1 are filled and counted missing (R10), line
k is developed from the payload, n becomes k + 1, the cell's CRC is added to the signature accumulator, and the stage-3
values replace the last-good-line buffer (R9, R16). Each line is delivered before the next is developed (R67). While the
egress line buffer has room for all of them, they reach the egress side in order of line number behind every earlier one
(R15, R174); on an idle lane a line n is sent at once. While the lane is sending and the buffer has no room for all,
exactly the lines that find room and the one after them are developed, the last of these waits, and the counts, n and
the statistics stand where these lines leave them (R174); that n then still has its old value is the model's deduction
(log 13). Nothing changes beside the receiver, the gathering statistics and the delivery of the lines. -/
def Obligations.LineDeveloped : Prop :=
  ∀ (x : Side) (body : List Byte) (s : State), s.resetHeld = false → (s.side x).pipe.waiting = none →
    (s.side x).recv.state = .receiving → crcChecks 0x02 body = true →
    lineLengthOk (s.side x).frameWidth body = true → (s.side x).recv.expected ≤ lineNumber body →
    lineNumber body < (s.side x).frameHeight →
    let d := s.side x
    let l := s.link x
    let v := d.pipe.inUse
    let n := d.recv.expected
    let k := lineNumber body
    let good := correctLine v k (linePixels body)
    let own := shapeLine v d.pipe.shaping k good
    let whole : Receiver :=
      { d.recv with
        expected := k + 1, missing := d.recv.missing + (k - n)
        signature := d.recv.signature + cellCrc body, lastGood := good }
    let tapped := tapLine v k good (filledTaps v d.recv.lastGood n (k - n) d.stats.gathering)
    ∃ t, exec (.cameraLine x body) s = .next t ∧
      t.besideDelivery x =
        (s.onSide x fun d =>
          { d with
            recv := (t.side x).recv
            stats := { d.stats with gathering := (t.side x).stats.gathering } }).besideDelivery x ∧
      (k - n < l.room →
        (t.side x).recv = whole ∧ (t.side x).stats.gathering = tapped ∧ (t.side x).pipe.waiting = none ∧
        (l.lane ≠ .idle →
          (t.link x).lane = l.lane ∧ (t.link x).buffer = l.buffer ++ filledLines d n (k - n) ++ [own]) ∧
        (∀ f rest, l.lane = .idle → k = n → l.run = none → l.buffer = [] → l.waitingStarts = [] →
          l.frames = f :: rest → f.source = .follow → f.sent < f.height →
          (t.link x).lane = .sending .line own.bytes ∧ (t.link x).buffer = [] ∧
          (t.link x).frames = { f with sent := f.sent + 1 } :: rest)) ∧
      (k - n = l.room → l.lane ≠ .idle →
        (t.side x).recv = whole ∧ (t.side x).stats.gathering = tapped ∧
        (t.side x).pipe.waiting = some ⟨own, .handled⟩ ∧
        (t.link x).lane = l.lane ∧ (t.link x).buffer = l.buffer ++ filledLines d n l.room) ∧
      (l.room < k - n → l.lane ≠ .idle →
        (t.side x).recv = { d.recv with missing := d.recv.missing + (l.room + 1) } ∧
        (t.side x).stats.gathering = filledTaps v d.recv.lastGood n (l.room + 1) d.stats.gathering ∧
        (t.side x).pipe.waiting =
          some ⟨shapeLine v d.pipe.shaping (n + l.room) d.recv.lastGood, .cell (n + l.room + 1) ⟨.line, body⟩⟩ ∧
        (t.link x).lane = l.lane ∧ (t.link x).buffer = l.buffer ++ filledLines d n l.room)

/-- A damaged LINE cell in RECEIVING with n < H. Under CONCEAL, or with a length that is not that of W pixels, line n is
concealed from the last-good-line buffer: the damaged count and n rise by 1 and the rest of the receiver is kept (R12,
R13). Under ACCEPT with the right length it is developed as line n: the damaged count and n rise by 1, the CRC as
received is added to the signature accumulator and the last-good-line buffer is replaced (R13). Either line passes the
tap and joins the lines for the egress side; with no room in the egress line buffer it waits in the pipeline, and the
handling of the cell with it (R174). Nothing else changes beside its delivery. -/
def Obligations.LineDamaged : Prop :=
  ∀ (x : Side) (body : List Byte) (s : State), s.resetHeld = false → (s.side x).pipe.waiting = none →
    (s.side x).recv.state = .receiving → (s.side x).recv.expected < (s.side x).frameHeight →
    (crcChecks 0x02 body && lineLengthOk (s.side x).frameWidth body) = false →
    ∃ t, exec (.cameraLine x body) s = .next t ∧
      (t.side x).recv =
        (if (s.side x).settings.lineCrcPolicy = .accept ∧ lineLengthOk (s.side x).frameWidth body = true then
          { (s.side x).recv with
            expected := (s.side x).recv.expected + 1
            damaged := (s.side x).recv.damaged + 1
            signature := (s.side x).recv.signature + cellCrc body
            lastGood := correctLine (s.side x).pipe.inUse (s.side x).recv.expected (linePixels body) }
        else
          { (s.side x).recv with
            expected := (s.side x).recv.expected + 1
            damaged := (s.side x).recv.damaged + 1 }) ∧
      (let line :=
        shapeLine (s.side x).pipe.inUse (s.side x).pipe.shaping (s.side x).recv.expected (t.side x).recv.lastGood
      (0 < (s.link x).room → (t.side x).pipe.waiting = none ∧
        ((s.link x).lane ≠ .idle →
          (t.link x).lane = (s.link x).lane ∧ (t.link x).buffer = (s.link x).buffer ++ [line])) ∧
      ((s.link x).room = 0 →
        (t.side x).pipe.waiting = some ⟨line, .handled⟩ ∧ t.link x = s.link x)) ∧
      (t.side x).stats.gathering =
        tapLine (s.side x).pipe.inUse (s.side x).recv.expected (t.side x).recv.lastGood (s.side x).stats.gathering ∧
      t.besideDelivery x =
        (s.onSide x fun d =>
          { d with
            recv := (t.side x).recv
            stats := { d.stats with gathering := (t.side x).stats.gathering } }).besideDelivery x

/-- An undamaged FRAME END (R17): in DISCARDING it sends the receiver to WAIT_START and changes nothing else, in
WAIT_START it is discarded; a damaged one changes nothing. In RECEIVING the lines n to H - 1 are filled, counted missing
and handed to the egress side in order. When the egress line buffer has room for them, the frame-end processing follows:
LINE_CRC and LINE_MISSING are judged on the counts (R18); the freeze counter, FROZEN, the previous signature and the
previous frame number follow R19; if no update was in flight the statistics are published with the filled lines in the
tile records, and an update starts, else they are discarded; the gathering buffer becomes EMPTY (R91). The update takes
the WEIGHT, GLARE and EXPOSE words of the active bank, which are its words 491 to 705, each as the value used for it,
ZoneLimit and PinnedFrames, and the night state, night counter, current map, E and pinned counter of the side; its
results are not dropped, no swap limits it yet, and the Emin and Emax taken become the limits in force (R93, R110,
R112); a WAITING guard that the changes of the conditions have left alone counts down (R160); the FRAME END of the
follow frame is handed over, and sent at once if nothing stands before it; the receiver goes to WAIT_START (R20). A
FRAME START then does the same first and goes on as a FRAME START in WAIT_START (R4). While the lane is sending and the
buffer has no room for all the lines, the first line without room waits and nothing of the frame-end processing has
taken place (R174). That n keeps its value is the model's deduction (log 13), and so are the size that the published
buffer carries (log 14) and the one word order in which the WEIGHT, GLARE and EXPOSE words taken are findings (log
33). -/
def Obligations.FrameEndProcessed : Prop :=
  ∀ (x : Side) (body : List Byte) (s : State), s.resetHeld = false → (s.side x).pipe.waiting = none →
    (cellGood 0x03 3 body = false ∨ (s.side x).recv.state = .waitStart → exec (.cameraFrameEnd x body) s = .next s) ∧
    (cellGood 0x03 3 body = true → (s.side x).recv.state = .discarding →
      exec (.cameraFrameEnd x body) s =
        .next (s.onSide x fun d => { d with recv := { d.recv with state := .waitStart } })) ∧
    (cellGood 0x03 3 body = true → (s.side x).recv.state = .receiving →
      let d := s.side x
      let l := s.link x
      let r := d.recv
      let total := d.frameHeight - r.expected
      ∃ t, exec (.cameraFrameEnd x body) s = .next t ∧ (∀ y, y ≠ x → t.side y = s.side y) ∧
        (total ≤ l.room →
          let e := t.side x
          let missing := r.missing + total
          let freeze := if r.prevSignature = some r.signature ∨ r.prevFrame = some r.frameNumber then min 255 (r.freeze + 1) else 0
          let taken := fun w => (d.store.activeBank.read w).used w
          e.recv =
            { r with
              state := .waitStart, missing := missing, freeze := freeze
              prevSignature := some r.signature, prevFrame := some r.frameNumber } ∧
          e.pipe.waiting = none ∧
          e.cond =
            { d.cond with
              lineCrc := decide (d.settings.crcMax < r.damaged)
              lineMissing := decide (d.settings.missingMax < missing)
              frozen := decide (d.settings.freezeFrames ≤ freeze)
              tableParity := e.cond.tableParity } ∧
          e.stats.gathering = .empty ∧
          (∀ i, d.store.active = some i → d.store.activeBank = d.store.bank i) ∧
          (∀ i, d.store.active = some i → d.glare.update = none →
            let words := (List.range 215).map fun w => 491 + w
            e.cond.tableParity = (d.cond.tableParity || words.any fun w => ((d.store.bank i).read w).failed) ∧
            e.store.parity = d.store.parity.found i (d.store.bank i) words) ∧
          (d.glare.update.isSome = true →
            e.stats.published = d.stats.published ∧ e.glare = d.glare ∧ e.exposure = d.exposure ∧
            e.cond.tableParity = d.cond.tableParity) ∧
          (d.glare.update = none →
            e.stats.published =
              ⟨true, r.frameNumber, d.frameWidth, d.frameHeight,
                (filledTaps d.pipe.inUse r.lastGood r.expected total d.stats.gathering).tiles⟩ ∧
            e.glare =
              { d.glare with
                update :=
                  some
                    { weights := (List.range 192).map fun k => taken (491 + k)
                      glareWords := (List.range 16).map fun k => taken (683 + k)
                      exposeWords := (List.range 7).map fun k => taken (699 + k)
                      zoneLimit := d.settings.zoneLimit, pinnedFrames := d.settings.pinnedFrames
                      night := d.glare.night, counter := d.glare.counter, current := d.glare.current
                      index := d.exposure.index, pinned := d.exposure.pinned
                      dropped := false, clamp := none } } ∧
            e.exposure = { d.exposure with limits := some (taken 703, taken 704) }) ∧
          (e.cond = d.cond → e.guard = d.guard.counted) ∧
          (l.lane ≠ .idle →
            (t.link x).lane = l.lane ∧ (t.link x).buffer = l.buffer ++ filledLines d r.expected total ∧
            (t.link x).frames = l.frames.map fun f => if f.source = .follow then { f with ended := true } else f) ∧
          (∀ f, l.lane = .idle → l.run = none → l.waitingStarts = [] → l.frames = [f] → f.source = .follow →
            f.height ≤ f.sent → total = 0 → (t.link x).lane = .sending .frameEnd frameEndCell) ∧
          (∀ start, cellGood 0x01 8 start = true →
            exec (.cameraFrameStart x start) s = exec (.cameraFrameStart x start) t)) ∧
        (l.room < total → l.lane ≠ .idle →
          let waiting := fun c : CameraCell =>
            some ⟨shapeLine d.pipe.inUse d.pipe.shaping (r.expected + l.room) r.lastGood,
              .cell (r.expected + l.room + 1) c⟩
          t = (s.onSide x fun d =>
              { d with
                recv := { d.recv with missing := d.recv.missing + (l.room + 1) }
                stats :=
                  { d.stats with
                    gathering := filledTaps d.pipe.inUse r.lastGood r.expected (l.room + 1) d.stats.gathering }
                pipe := { d.pipe with waiting := waiting ⟨.frameEnd, body⟩ } }).onLink x (fun l =>
              { l with buffer := l.buffer ++ filledLines d r.expected (s.link x).room }) ∧
          (∀ start, cellGood 0x01 8 start = true →
            exec (.cameraFrameStart x start) s =
              .next (t.onSide x fun d => { d with pipe := { d.pipe with waiting := waiting ⟨.frameStart, start⟩ } }))))

/-- A CAMERA STATUS cell. Undamaged: it is stored, the damaged-on-store flag and STATUS_CKSUM become false, and if its
tag matches the exposure slot the slot is emptied with CAMERA_NO_ACK false (R22, R23, R122). Damaged: under ALWAYS and
with the length of a status cell it is stored with the damaged-on-store flag set, else the record keeps its contents;
STATUS_CKSUM becomes true in both cases and the exposure state is kept (R23, R24). At each store CAMERA_FAULT and
TEMP_HIGH are judged (R25). The receiver and everything else beside supervision are kept. -/
def Obligations.StatusCellHandled : Prop :=
  ∀ (x : Side) (body : List Byte) (s : State), s.resetHeld = false → (s.side x).pipe.waiting = none →
    ∃ t, exec (.cameraStatus x body) s = .next t ∧
      let d := s.side x
      let good := cellGood 0x04 10 body
      let stored := good || (decide (d.settings.statusStore = .always) && decide (body.length + 1 = 10))
      let acked := good && d.exposure.acknowledges (statusFields body false).tag
      (t.side x).status = (if stored then statusFields body (!good) else d.status) ∧
      (t.side x).exposure = (if acked then d.exposure.acknowledge else d.exposure) ∧
      (t.side x).cond =
        { d.cond with
          statusCksum := !good
          cameraNoAck := d.cond.cameraNoAck && !acked
          cameraFault :=
            if stored then (statusFields body (!good)).faults &&& d.settings.cameraFaultMask != 0 else d.cond.cameraFault
          tempHigh :=
            if stored then decide (d.settings.tempLimit < (statusFields body (!good)).temperature.toInt)
            else d.cond.tempHigh } ∧
      t.besideSupervision x =
        (s.onSide x fun d =>
          { d with status := (t.side x).status, exposure := (t.side x).exposure, cond := (t.side x).cond }).besideSupervision x

/-- A cell whose kind names none of its lane's kinds is discarded, damaged or not, and changes nothing (R1, R179). -/
def Obligations.UnknownKindsDiscarded : Prop :=
  ∀ (x : Side) (kind : Byte) (body : List Byte) (s : State),
    exec (.cameraUnknownKindCell x kind body) s = .next s ∧ exec (.displayUnknownKindCell x kind body) s = .next s

/-! ## Timers -/

/-- The capture at an accepted frame start: an absent reference becomes the capture; else the divider count advances,
and when it reaches D a measurement is made, the elapsed time divided by D and floored, the reference becomes the
capture and the count 0 (R30). A measurement sets the unread flag, and the overrun flag if the last one was unread
(R31). FRAME_INTERVAL is judged at a measurement against NominalInterval and IntervalTolerance, and is kept otherwise
(R31). -/
def Obligations.CaptureTaken : Prop :=
  ∀ (d : SideState) (now : Time) (number : Byte) (values : FrameValues),
    let t := d.timing
    let D := d.settings.captureDivider
    let e := d.accept now number values
    (t.reference = none →
      e.timing = { t with last := now, reference := some now, divider := 0 } ∧
        e.cond.frameInterval = d.cond.frameInterval) ∧
    (∀ r, t.reference = some r → t.divider + 1 < D →
      e.timing = { t with last := now, divider := t.divider + 1 } ∧ e.cond.frameInterval = d.cond.frameInterval) ∧
    (∀ r, t.reference = some r → D ≤ t.divider + 1 →
      let interval := (now - r).toNat / D
      e.timing = ⟨now, some now, 0, some interval, true, t.overrun || t.unread⟩ ∧
        e.cond.frameInterval =
          (decide (d.settings.nominalInterval + d.settings.intervalTolerance < interval) ||
            decide (interval + d.settings.intervalTolerance < d.settings.nominalInterval)))

/-- The expiry of a frame timeout that is due while no line waits. It first abandons a frame in progress: the lines n to
H - 1 are filled, developed with the values in use, pass the tap and are counted missing, the statistics are discarded
(R77, R91), the receiver goes to WAIT_START and the FRAME END is handed over (R21). Then LINK_LOSS becomes true and
CAMERA_NO_ACK false, the timer stops (R34), the reference becomes absent and the divider count 0 (R33), the exposure
slot empties and the last commanded E becomes unknown (R124), and last the source becomes STANDALONE with a standalone
frame start due (R36, R165, R215). LINE_CRC, LINE_MISSING and FROZEN are not judged. When the egress line buffer has no
room for all the lines, the first line without room waits (R174), and nothing of what follows the lines has taken place:
beside the missing count, the gathering statistics and the delivery of the lines everything is as it was. The model's
choices: an expiry that is not due does not happen (log 1); a standalone frame start is a due event (log 11); the fills
leave n as it was (log 13); that the link is not lost, nor the timer stopped, while a line waits is deduced (log 36). -/
def Obligations.FrameTimeoutExpires : Prop :=
  ∀ (x : Side) (s : State), s.resetHeld = false → (s.side x).pipe.waiting = none →
    (frameTimeoutDue s x = true →
      ∃ t, exec (.frameTimeoutExpiry x) s = .next t ∧
        let d := s.side x
        let e := t.side x
        let l := s.link x
        let n := d.recv.expected
        let total := d.frameHeight - n
        (∀ y, y ≠ x → t.side y = s.side y) ∧
        (d.recv.state ≠ .receiving ∨ total ≤ l.room → e.pipe.waiting = none) ∧
        (e.pipe.waiting = none →
          e.cond = { d.cond with linkLoss := true, cameraNoAck := false } ∧
          e.frameTimer = none ∧ e.source = .standalone ∧ e.standaloneDue = true ∧
          e.timing = { d.timing with reference := none, divider := 0 } ∧
          e.exposure = { d.exposure with slot := .empty, last := none } ∧
          e.stats.published = d.stats.published ∧ e.glare = d.glare ∧ e.pipe = d.pipe ∧
          (d.recv.state ≠ .receiving → e.recv = d.recv ∧ e.stats = d.stats) ∧
          (d.recv.state = .receiving →
            e.recv = { d.recv with state := .waitStart, missing := d.recv.missing + total } ∧
            e.stats.gathering = .empty ∧
            (l.lane ≠ .idle →
              (t.link x).lane = l.lane ∧ (t.link x).buffer = l.buffer ++ filledLines d n total ∧
              (t.link x).frames = l.frames.map fun f => if f.source = .follow then { f with ended := true } else f))) ∧
        (e.pipe.waiting.isSome = true →
          t.besideDelivery x =
            (s.onSide x fun d =>
              { d with
                recv := { d.recv with missing := e.recv.missing }
                stats := { d.stats with gathering := e.stats.gathering } }).besideDelivery x) ∧
        (d.recv.state = .receiving → l.room < total → l.lane ≠ .idle →
          t = (s.onSide x fun d =>
              { d with
                recv := { d.recv with missing := d.recv.missing + (l.room + 1) }
                stats :=
                  { d.stats with
                    gathering := filledTaps d.pipe.inUse d.recv.lastGood n (l.room + 1) d.stats.gathering }
                pipe :=
                  { d.pipe with
                    waiting :=
                      some
                        ⟨shapeLine d.pipe.inUse d.pipe.shaping (n + l.room) d.recv.lastGood,
                          .expiry (n + l.room + 1)⟩ } }).onLink x fun l =>
              { l with buffer := l.buffer ++ filledLines d n (s.link x).room })) ∧
    (frameTimeoutDue s x = false → exec (.frameTimeoutExpiry x) s = .next s)

/-- The expiry of a standalone period timer that is due stops it and makes the next standalone frame start due (R37; log
11); one that is not due does not happen (log 1). -/
def Obligations.PeriodExpires : Prop :=
  ∀ (x : Side) (s : State), s.resetHeld = false →
    exec (.standalonePeriodExpiry x) s =
      if periodDue s x = true then .next (s.onSide x fun d => { d with periodTimer := none, standaloneDue := true })
      else .next s

/-- A standalone frame start, when one is due, the source is STANDALONE and no egress frame of the side is in progress.
A pending commit swaps first (R61, R214); s0 is the state after it. The period timer starts at the time base reading
(R36, R37); the one egress frame in progress is a standalone frame of the size and colour of R166, 640 by 480 of (64,
64, 64) with no active bank; the egress frame number advances, and its FRAME START, with the warning-content flag set,
waits behind those that wait already (R173), or on an idle lane is sent (R172); with an active bank the size is that of
its words 0 and 1, the colour that of its words 10 to 12, and the frame values are its words 0 to 490, each as the value
used for it, taken with their findings (R49, R50, R68); the pipeline takes a ready next map with its knee (R70) and the
m that the guard's step leaves (R71, R158). No capture is taken, and the frame timeout and the exposure state are kept
(R37). That the frame start is an event that is due is the model's choice (log 11), and so is it that the findings of
its taking are evaluated last (log 10). -/
def Obligations.StandaloneFrameStarts : Prop :=
  ∀ (x : Side) (s : State), s.resetHeld = false → (s.side x).standaloneDue = true →
    (s.side x).source = .standalone → (s.link x).frames = [] →
    let s0 := swapIfPending s x
    let d := s0.side x
    let l := s0.link x
    ∃ t, exec (.standaloneFrameStart x) s = .next t ∧
      let e := t.side x
      let m := t.link x
      let map := if d.pipe.nextReady then d.glare.next else d.pipe.map
      let begun := fun (w h : Nat) (colour : Rgb) =>
        let start : FrameStartCell := ⟨l.number, .standalone, true, w, h⟩
        m.frames = [⟨.standalone, w, h, colour, 0, false⟩] ∧
        (l.lane = .idle → l.waitingStarts = [] → m.lane = .sending .frameStart start.bytes) ∧
        (l.lane ≠ .idle → m.lane = l.lane ∧ m.waitingStarts = l.waitingStarts ++ [start])
      e.periodTimer = some s.timeBase ∧ e.standaloneDue = false ∧ m.number = l.number + 1 ∧
      (d.store.active = none →
        begun 640 480 ⟨64, 64, 64⟩ ∧ e.pipe.values = d.pipe.values ∧ e.pipe.map = map ∧ e.store = d.store) ∧
      (∀ i, d.store.active = some i →
        let taken := fun w => ((d.store.bank i).read w).used w
        begun (taken 0) (taken 1) ⟨taken 10, taken 11, taken 12⟩ ∧
        e.pipe.values = some ((List.range 491).map taken) ∧ e.store.frameSize = some (taken 0, taken 1) ∧
        e.store.parity = d.store.parity.found i (d.store.bank i) (List.range 491) ∧
        e.cond.tableParity =
          (d.cond.tableParity || (List.range 491).any fun w => ((d.store.bank i).read w).failed) ∧
        (d.store.frameSize = some (taken 0, taken 1) → e.pipe.map = map)) ∧
      e.pipe.knee = (if d.pipe.nextReady then d.glare.nextKnee else d.pipe.knee) ∧ e.pipe.nextReady = false ∧
      e.pipe.fade = (d.guard.stepped d.settings).m ∧ e.timing = d.timing ∧
      e.frameTimer = d.frameTimer ∧ e.exposure = d.exposure ∧
      e.recv.state = d.recv.state ∧ (∀ y, y ≠ x → t.side y = s.side y)

/-- The display status record. An undamaged DISPLAY STATUS cell replaces the fault flags and the temperature, clears the
silent flag and restarts the display timeout (R180); the expiry of a display timeout that is due sets the silent flag
and stops the timer (R39); in both cases DISPLAY_FAULT of the link's side is judged (R181) and nothing else changes
beside supervision. A damaged or malformed cell, and an expiry that is not due, change nothing (R180; log 1). -/
def Obligations.DisplayRecordKept : Prop :=
  ∀ (x : Side) (body : List Byte) (s : State), s.resetHeld = false →
    let fault := fun (l : LinkState) =>
      l.display.silent || (l.display.faults &&& (s.side x).settings.displayFaultMask != 0)
    (cellGood 0x31 6 body = true →
      ∃ t, exec (.displayStatus x body) s = .next t ∧
        (t.link x).display =
          { (s.link x).display with faults := cellByte body 1, temperature := cellHalf body 2, silent := false } ∧
        (t.link x).displayTimer = some s.timeBase ∧
        (t.side x).cond = { (s.side x).cond with displayFault := fault (t.link x) } ∧
        t.besideSupervision x =
          ((s.onSide x fun d => { d with cond := (t.side x).cond }).onLink x fun l =>
            { l with display := (t.link x).display, displayTimer := (t.link x).displayTimer }).besideSupervision x) ∧
    (cellGood 0x31 6 body = false → exec (.displayStatus x body) s = .next s) ∧
    (displayTimeoutDue s x = true →
      ∃ t, exec (.displayTimeoutExpiry x) s = .next t ∧
        (t.link x).display = { (s.link x).display with silent := true } ∧ (t.link x).displayTimer = none ∧
        (t.side x).cond = { (s.side x).cond with displayFault := true } ∧
        t.besideSupervision x =
          ((s.onSide x fun d => { d with cond := (t.side x).cond }).onLink x fun l =>
            { l with display := (t.link x).display, displayTimer := none }).besideSupervision x) ∧
    (displayTimeoutDue s x = false → exec (.displayTimeoutExpiry x) s = .next s)

/-- A WARN pulse ends at the expiry of its timer, when that is due, and at a WARN STOP: WARN becomes INACTIVE, the timer
stops, and nothing else changes but the WARN STOP's answer DONE, which comes whether or not WARN was ACTIVE (R40, R146).
That an expiry that is not due changes nothing is the model's choice (log 1). -/
def Obligations.WarnPulseEnds : Prop :=
  ∀ s : State, s.resetHeld = false → WarnTimed s →
    (warnPulseDue s = true → exec .warnPulseExpiry s = .next { s with warn := false, warnTimer := none }) ∧
    (warnPulseDue s = false → exec .warnPulseExpiry s = .next s) ∧
    (∀ (x : Side) (r : Request), CanTake s x r → r.kind = 0x0A →
      exec (.warnStop x) s = .next { answered s x .done with warn := false, warnTimer := none })

/-- The view guard moves. A trip, here by a FORCE WARNING that a CONFORMING group of level 3 watches, leaves the guard
as the table of R155 says: CLEAR and RESTORING go to FADING with m kept, or to HELD with m = 64 while LINK_LOSS, FORMAT
or NO_TABLES is true (R156), WAITING goes to HELD, FADING and HELD stay; the change starts a WARN pulse if WARN is
INACTIVE and leaves a pulse in progress alone (R40, R145, R157), and the side's report is pending on both links (R157).
At an egress frame start, here a standalone one with no commit pending whose taking makes no new finding, FADING and
RESTORING step m by FadeStep, into HELD at 64 and CLEAR at 0 (R158); a fade that ends on a restore-ready side goes on to
restoration under AUTO (R159); a step into another state makes the report pending (R157), and no step starts a WARN
pulse. -/
def Obligations.GuardMoves : Prop :=
  (∀ (x y : Side) (r : Request) (s : State) (k : Nat), CanTake s x r → r.kind = 0x09 → r.names = some y → r.id ≠ 0 →
    (s.side y).cond.forced = false → k < 4 →
    let g := (s.side y).groups.nth k
    g.level = 3 → g.nonconforming = false →
    g.mismatch { (s.side y).cond with forced := true }.vector = true →
    ∃ t, exec (.forceWarning x) s = .next t ∧
      let c := (s.side y).cond
      let before := (s.side y).guard
      (t.side y).guard = before.tripped (c.linkLoss || c.format || c.noTables) ∧
      t.warn = (s.warn || before.canTrip) ∧
      t.warnTimer = (if before.canTrip = true ∧ s.warn = false then some s.timeBase else s.warnTimer) ∧
      (∀ z, (t.link z).report y = true)) ∧
  (∀ (x : Side) (s : State), s.resetHeld = false → (s.side x).standaloneDue = true →
    (s.side x).source = .standalone → (s.link x).frames = [] → (s.side x).store.commitPending = false →
    (s.link x).lane ≠ .idle →
    (∀ w, w < 491 → ((s.side x).store.activeBank.read w).failed = true → (s.side x).cond.tableParity = true) →
    ∃ t, exec (.standaloneFrameStart x) s = .next t ∧
      let before := (s.side x).guard
      (t.side x).guard = before.stepped (s.side x).settings ∧ t.warn = s.warn ∧ t.warnTimer = s.warnTimer ∧
      (∀ y, (t.link y).report x = ((s.link y).report x || decide ((t.side x).guard.state ≠ before.state))))

/-! ## Table banks -/

/-- A parity failure strikes one word: it holds the value the memory then holds and is failed; every other word of every
bank reads as before, and nothing else changes, no condition and no parity record (R48). -/
def Obligations.ParityFailureStrikes : Prop :=
  ∀ (x : Side) (bank : BankId) (word : Fin 706) (value : Half) (s : State), s.resetHeld = false →
    (s.side x).BanksCanonical →
    ∃ t, exec (.parityFailure x bank word value) s = .next t ∧
      ((t.side x).store.bank bank).read word = ⟨value, true⟩ ∧
      (∀ w, w ≠ word.val → ((t.side x).store.bank bank).read w = ((s.side x).store.bank bank).read w) ∧
      (∀ b, b ≠ bank → (t.side x).store.bank b = (s.side x).store.bank b) ∧
      t = s.onSide x fun d =>
        { d with store := { d.store with bank0 := (t.side x).store.bank0, bank1 := (t.side x).store.bank1 } }

/-- The copy in flight takes its next word: the value used, which is the substitute of a failed word, stands in the
shadow with good parity, every other word of both banks reads as before, progress advances, and a failed word is noted
and is a finding: TABLE_PARITY becomes true, the parity record keeps an earlier first failure or takes this one, and its
count rises, saturating at 255 (R50, R56). -/
def Obligations.CopyWordTaken : Prop :=
  ∀ (x : Side) (s : State) (op : Operation) (i : BankId), s.resetHeld = false → (s.side x).BanksCanonical →
    (s.side x).store.op = some op → op.kind = .copy → op.progress < 706 → (s.side x).store.active = some i →
    ∃ t, exec (.copyWord x) s = .next t ∧
      let word := ((s.side x).store.bank i).read op.progress
      ((t.side x).store.bank (otherBank i)).read op.progress = ⟨BitVec.ofNat 16 (word.used op.progress), false⟩ ∧
      (∀ w, w ≠ op.progress →
        ((t.side x).store.bank (otherBank i)).read w = ((s.side x).store.bank (otherBank i)).read w) ∧
      (t.side x).store.bank i = (s.side x).store.bank i ∧
      (t.side x).store.op = some { op with progress := op.progress + 1, failure := op.failure || word.failed } ∧
      (t.side x).cond.tableParity = ((s.side x).cond.tableParity || word.failed) ∧
      (t.side x).store.parity =
        (if word.failed then
          ⟨some ((s.side x).store.parity.first.getD ⟨i, wordTable op.progress, wordIndex op.progress⟩),
            min 255 ((s.side x).store.parity.count + 1)⟩
        else (s.side x).store.parity) ∧
      t.besideSupervision x =
        (s.onSide x fun d => { d with store := (t.side x).store, cond := (t.side x).cond }).besideSupervision x

/-- The completion of a copy: from the progress reached on, every shadow word holds the value used of the active word
with good parity; the value used is the word's own, and for a failed word the substitute of the table of R50; below it
the shadow reads as before, and the active bank is untouched; no operation is in flight any more; and the reserved slot
of the link the copy was taken from holds REFUSED PARITY if a failed word was found and DONE if none was (R56, R57). The
words not yet copied are copied by the completion: log 12. -/
def Obligations.CopyCompletes : Prop :=
  ∀ (x : Side) (s : State) (op : Operation) (i : BankId), s.resetHeld = false → (s.side x).BanksCanonical →
    (s.side x).store.op = some op → op.kind = .copy → op.progress ≤ 706 → (s.side x).store.active = some i →
    ∃ t, exec (.copyCompletion x) s = .next t ∧
      let active := (s.side x).store.bank i
      let failed := op.failure || (List.range 706).any fun w => decide (op.progress ≤ w) && (active.read w).failed
      let develop := [640, 480, 0, 0, 0, 0, 256, 256, 256, 4095, 64, 64, 64]
      let glare := [4095, 256, 1, 255, 0, 0, 4095, 255, 0, 0, 0, 0, 0, 0, 0, 0]
      let expose := [1024, 1023, 8, 1, 0, 511, 0]
      let substitutes :=
        develop ++ List.replicate 221 1024 ++ (List.range 257).map (min 255) ++ List.replicate 192 0 ++ glare ++ expose
      (∀ w, (active.read w).failed = false → (active.read w).used w = (active.read w).value.toNat) ∧
      (∀ w, w < 706 → (active.read w).failed = true → (active.read w).used w = substitutes.getD w 0) ∧
      (∀ w, op.progress ≤ w → w < 706 →
        ((t.side x).store.bank (otherBank i)).read w = ⟨BitVec.ofNat 16 ((active.read w).used w), false⟩) ∧
      (∀ w, w < op.progress →
        ((t.side x).store.bank (otherBank i)).read w = ((s.side x).store.bank (otherBank i)).read w) ∧
      (t.side x).store.bank i = active ∧ (t.side x).store.op = none ∧
      (t.link op.link).responses =
        fillReserved (s.link op.link).responses (if failed then .refused .parity else .done) ∧
      (∀ y, y ≠ x → t.side y = s.side y)

/-- The check in flight reads its next shadow word: the sum, the failure noted, the first invalid word and the progress
advance, and nothing else changes; a failed shadow word is no finding (R59). -/
def Obligations.CheckWordRead : Prop :=
  ∀ (x : Side) (s : State) (op : Operation) (expected : Half), s.resetHeld = false →
    (s.side x).store.op = some op → op.kind = .check expected → op.progress < 706 →
    let bank := (s.side x).store.bank (s.side x).store.shadow
    let word := bank.read op.progress
    exec (.checkWord x) s =
      .next (s.onSide x fun d =>
        { d with
          store :=
            { d.store with
              op :=
                some
                  { op with
                    progress := op.progress + 1
                    failure := op.failure || word.failed
                    sum := op.sum + word.value
                    invalid :=
                      if op.invalid.isSome then op.invalid
                      else if wordValid bank op.progress then none
                      else some (wordTable op.progress, wordIndex op.progress) } } })

/-- The completion of a check that has read all 706 words: no operation is in flight any more, the reserved slot of its
link holds the first result that applies, PARITY, CHECKSUM, INVALID with the first invalid word, or ACCEPTED, and a
commit becomes pending exactly when it is ACCEPTED (R60). Nothing else changes. -/
def Obligations.CheckCompletes : Prop :=
  ∀ (x : Side) (s : State) (op : Operation) (expected : Half), s.resetHeld = false →
    (s.side x).store.op = some op → op.kind = .check expected → op.progress = 706 →
    (s.side x).store.commitPending = false →
    let r : Response :=
      if op.failure then .refused .parity
      else if op.sum ≠ expected then .refused .checksum
      else match op.invalid with
        | some (t, i) => .refused (.invalid t i)
        | none => .accepted
    exec (.checkCompletion x) s =
      .next ((s.onSide x fun d =>
        { d with store := { d.store with op := none, commitPending := decide (r = .accepted) } }).onLink op.link
          fun l => { l with responses := fillReserved l.responses r })

/-- A check that has just begun, run to its completion with no other event between, leaves a commit pending exactly when
no shadow word is failed, the sum of the 706 values is the expected checksum and every word is valid (R47, R58, R59,
R60). That the completion then reads the words not yet read is the model's choice (log 12). -/
def Obligations.AcceptedMeansSound : Prop :=
  ∀ (x : Side) (s t : State) (link : Side) (expected : Half), s.resetHeld = false →
    (s.side x).store.op = some ⟨.check expected, link, 0, false, 0, none⟩ → (s.side x).store.commitPending = false →
    exec (.checkCompletion x) s = .next t →
    let bank := (s.side x).store.bank (s.side x).store.shadow
    ((t.side x).store.commitPending = true ↔
      (∀ w, w < 706 → (bank.read w).failed = false) ∧
      ((List.range 706).map fun w => (bank.read w).value).sum = expected ∧
      (∀ w, w < 706 → wordValid bank w = true))

/-- The swap of a side (R62 to R64): the shadow becomes the active bank and both banks keep their words; the commit
stops being pending, NO_TABLES becomes false, the scrub cursor 0; TABLE_PARITY is true afterwards exactly when a word
the swap takes is failed; every value of the four maps is at most the MaxAtten taken; E is brought within the Emin and
Emax taken, an unset E becomes the Einit taken or, if that word is failed, the Emin taken (R111), and the exposure state
is what the command logic then makes of it (R117); and the frame size in use is the W and H taken, a change of it
clearing the four maps, the two statistics buffers, the freeze counter and the previous signature. An update in flight
keeps the MaxAtten, Emin and Emax that the swap took as its limits: log 20. That a failed Einit is a finding with E set
too is the model's choice: log 35. -/
def Obligations.SwapExchanges : Prop :=
  (∀ d : SideState,
    let e := d.swap
    let bank := d.store.bank d.store.shadow
    let used := fun w => (bank.read w).used w
    e.store.active = some d.store.shadow ∧ e.store.bank0 = d.store.bank0 ∧ e.store.bank1 = d.store.bank1 ∧
    e.store.commitPending = false ∧ e.cond.noTables = false ∧ e.store.scrub = 0 ∧
    (e.cond.tableParity = true ↔ ∃ w ∈ [0, 1, 687, 703, 704, 705], (bank.read w).failed = true) ∧
    (∀ v ∈ e.glare.target ++ e.glare.current ++ e.glare.next ++ e.pipe.map, v ≤ used 687) ∧
    (let index :=
      match d.exposure.index with
      | some old => if old < used 703 then used 703 else if used 704 < old then used 704 else old
      | none => if (bank.read 705).failed then used 703 else (bank.read 705).value.toNat
    e.exposure.index = some index ∧ e.exposure.limits = some (used 703, used 704) ∧
    e.exposure =
      Exposure.commandLogic { d.exposure with index := some index, limits := some (used 703, used 704) }) ∧
    (∀ old, d.exposure.index = some old → used 703 ≤ used 704 →
      ∃ new, e.exposure.index = some new ∧ used 703 ≤ new ∧ new ≤ used 704 ∧
        (used 703 ≤ old → old ≤ used 704 → new = old)) ∧
    e.store.frameSize = some (used 0, used 1) ∧
    (d.store.frameSize ≠ some (used 0, used 1) →
      e.stats.gathering = .empty ∧ e.stats.published = .empty ∧ e.glare.target = zeroMap ∧ e.glare.current = zeroMap ∧
      e.glare.next = zeroMap ∧ e.pipe.map = zeroMap ∧ e.recv.freeze = 0 ∧ e.recv.prevSignature = none ∧
      (∀ p ∈ e.recv.lastGood, p = Rgb.black) ∧ (∀ u, e.glare.update = some u → u.dropped = true)) ∧
    (d.store.frameSize = some (used 0, used 1) →
      e.stats = d.stats ∧ e.recv = d.recv ∧
      (∀ u, d.glare.update = some u → e.glare.update = some { u with clamp := some ⟨used 687, used 703, used 704⟩ }))) ∧
  (∀ (x : Side) (s : State), (s.side x).store.commitPending = true →
    (swapIfPending s x).besideSupervision x = (s.onSide x SideState.swap).besideSupervision x ∧
    (∀ y, ((swapIfPending s x).link y).report x = true) ∧
    (s.resetHeld = false →
      let swapped := fun d : SideState =>
        d.store.active = some (s.side x).store.shadow ∧ d.store.commitPending = false ∧ d.cond.noTables = false ∧
          d.store.bank0 = (s.side x).store.bank0 ∧ d.store.bank1 = (s.side x).store.bank1
      (∀ body, (s.side x).pipe.waiting = none → (s.side x).recv.state ≠ .receiving → cellGood 0x01 8 body = true →
        ∃ t, exec (.cameraFrameStart x body) s = .next t ∧ swapped (t.side x)) ∧
      ((s.side x).standaloneDue = true → (s.side x).source = .standalone → (s.link x).frames = [] →
        ∃ t, exec (.standaloneFrameStart x) s = .next t ∧ swapped (t.side x))))

/-! ## Development, statistics, glare, exposure -/

/-- Every component of a developed pixel lies in 0 to 255 when the tone entries, Wv and the fade factor do as R47 and
R71 give them (R84). -/
def Obligations.PixelsInRange : Prop :=
  ∀ (v : FrameValues) (k : Shaping) (y : Nat) (px : List Rgb), v.InRange k.fade →
    ∀ p ∈ (shapeLine v k y px).pixels, isBytePixel p

/-- The stages of the pipeline and the statistics tap, pixel by pixel. A payload pixel passes black level, shading with
the interpolated gain S of R73, and white balance, each rounded and saturated as R72, R74 and R75 state. A stage-3 pixel
passes compression above the knee with the attenuation a of R78, the tone curve, the fade and the flip (R79, R80, R81,
R83). S is the rounded mean of the four gains around the pixel, lies between the smallest and the largest of them, and
equals the gain of the tile's top-left corner there (R73). a is the rounded mean of the map values around the pixel, is
at most the largest value of the map, and is that of tile (0, 0) in its outer quarter (R78). At m = 0 the fade leaves
the developed value, and at m = 64 it gives Wv (R81, R82). A line that passes the tap leaves the gathering buffer
GATHERING; with every record 0 first if it was EMPTY, each of its pixels adds its luma to the luma sum of its tile,
column x / tw and row y / th, and 1 to the clip count there if a component reaches ClipLevel (R76, R90). -/
def Obligations.PixelStages : Prop :=
  ∀ (v : FrameValues) (k : Shaping) (y x : Nat) (px : List Rgb) (p : Rgb), px[x]? = some p →
    let tw := v.width / 16
    let th := v.height / 12
    let mean := fun (p00 p10 p01 p11 fx fy : Nat) =>
      ((p00 * (tw - fx) + p10 * fx) * (th - fy) + (p01 * (tw - fx) + p11 * fx) * fy + tw * th / 2) / (tw * th)
    let cell := fun (pos size last : Nat) =>
      if pos < size / 2 then (0, 0)
      else if last ≤ (pos - size / 2) / size then (last, 0)
      else ((pos - size / 2) / size, (pos - size / 2) % size)
    let S := shadingGain v x y
    let a := attenuation v k.map x y
    let m := fun (i j : Nat) => k.map.getD (j * 16 + i) 0
    let c3 := fun (c bk wb : Nat) => min 4095 ((min 4095 (((c - bk) * S + 512) / 1024) * wb + 128) / 256)
    let c4 := fun c : Nat => if c ≤ k.knee then c else k.knee + (c - k.knee) * (256 - a) / 256
    let out := fun c : Nat =>
      let i := c4 c / 16
      let f := c4 c % 16
      (max 0 (min 255 ((v.tone i : Int) + (((v.tone (i + 1) : Int) - v.tone i) * f + 8) / 16))).toNat
    let faded := fun (c wv : Nat) => (out c * (64 - k.fade) + wv * k.fade + 32) / 64
    (correctLine v y px)[x]? = some ⟨c3 p.r v.bk.r v.wb.r, c3 p.g v.bk.g v.wb.g, c3 p.b v.bk.b v.wb.b⟩ ∧
    (shapeLine v k y px).number = y ∧
    (shapeLine v k y px).pixels[if v.flip = 1 then px.length - 1 - x else x]? =
      some ⟨faded p.r v.wv.r, faded p.g v.wv.g, faded p.b v.wv.b⟩ ∧
    (0 < tw → 0 < th →
      let i := x / tw
      let j := y / th
      let P := v.shade
      S = mean (P i j) (P (i + 1) j) (P i (j + 1)) (P (i + 1) (j + 1)) (x % tw) (y % th) ∧
      min (min (P i j) (P (i + 1) j)) (min (P i (j + 1)) (P (i + 1) (j + 1))) ≤ S ∧
      S ≤ max (max (P i j) (P (i + 1) j)) (max (P i (j + 1)) (P (i + 1) (j + 1))) ∧
      (x % tw = 0 → y % th = 0 → S = P i j) ∧
      (let (i, fx) := cell x tw 15
      let (j, fy) := cell y th 11
      a = mean (m i j) (m (i + 1) j) (m i (j + 1)) (m (i + 1) (j + 1)) fx fy) ∧
      (∀ most, (∀ value ∈ k.map, value ≤ most) → a ≤ most) ∧ (x < tw / 2 → y < th / 2 → a = m 0 0)) ∧
    (∀ c wv, (k.fade = 0 → faded c wv = out c) ∧ (k.fade = 64 → faded c wv = wv)) ∧
    (∀ g : Gathering,
      let before : List Tile := if g.gathering then g.tiles else List.replicate 192 ⟨0, 0⟩
      let g' := tapLine v y px g
      let sumOver := fun (tile : Nat) (f : Rgb → Nat) =>
        ((List.range px.length).map fun x' =>
          if x' / tw = tile % 16 ∧ y / th = tile / 16 then f (px.getD x' Rgb.black) else 0).sum
      g'.gathering = true ∧ g'.tiles.length = before.length ∧
      ∀ tile old, before[tile]? = some old →
        g'.tiles[tile]? =
          some
            (⟨old.luma + sumOver tile fun q => (5 * q.r + 9 * q.g + 2 * q.b + 8) / 16,
              old.clips + sumOver tile fun q =>
                if v.clipLevel ≤ q.r ∨ v.clipLevel ≤ q.g ∨ v.clipLevel ≤ q.b then 1 else 0⟩ : Tile))

/-- The results of an update: every target is at most the MaxAtten taken, and no target is above 0 unless the new night
state is NIGHT (R99, R100); each current value moves toward its target by Attack up or Release down and never passes it
(R101); the zone count is the number of targets above 0, and GLARE_WIDE says that it exceeds ZoneLimit (R102). -/
def Obligations.UpdateDimsOnlyAtNight : Prop :=
  ∀ (u : Update) (p : Published),
    let r := u.result p
    (∀ v ∈ r.target, v ≤ glareWord u.glareWords 4) ∧
    (r.night = .day → ∀ v ∈ r.target, v = 0) ∧
    (∀ i, i < 192 →
      let c := u.current.getD i 0
      let c' := r.current.getD i 0
      let goal := r.target.getD i 0
      (c < goal → c' = min goal (c + glareWord u.glareWords 2)) ∧
      (goal < c → c' = max goal (c - glareWord u.glareWords 3)) ∧ (c = goal → c' = c) ∧
      min c goal ≤ c' ∧ c' ≤ max c goal) ∧
    r.zoneCount = (r.target.filter fun t => decide (0 < t)).length ∧ r.glareWide = decide (u.zoneLimit < r.zoneCount)

/-- The values of an update. The night state and counter step as the table of R98 says, on the scene mean of R97. With q
the clipped fraction of a tile, its own value is AttTab[min(7, q / 32)] if the new state is NIGHT and q is at least
ClipMin, and nothing otherwise (R99); each tile's target is the largest of its own value and of half of each neighbour's
own value, limited to MaxAtten (R100). The tiles with target 0 and a weight above 0 are metered: with none of them E and
the pinned counter are kept, otherwise E steps on their weighted mean, and the counter rises, saturating at 255, if E
stands at the limit the mean asked it to pass, and becomes 0 if not; EXPOSURE_PINNED says that it has reached
PinnedFrames (R113, R115). -/
def Obligations.UpdateValues : Prop :=
  ∀ (u : Update) (p : Published), p.tiles.length = 192 →
    let r := u.result p
    let word := glareWord u.glareWords
    let area := (p.width / 16) * (p.height / 12)
    let mean := fun i : Nat => (p.tiles.getD i ⟨0, 0⟩).luma / area
    let scene := ((List.range 192).map mean).sum / 192
    let against := if u.night = .day then decide (scene < word 5) else decide (word 6 < scene)
    let other := if u.night = .day then NightState.night else .day
    let own := fun i : Nat =>
      let q := (p.tiles.getD i ⟨0, 0⟩).clips * 256 / area
      if r.night = .night ∧ word 1 ≤ q then word (8 + min 7 (q / 32)) else 0
    let near := fun i j : Nat =>
      j < 192 ∧ j ≠ i ∧ i % 16 ≤ j % 16 + 1 ∧ j % 16 ≤ i % 16 + 1 ∧ i / 16 ≤ j / 16 + 1 ∧ j / 16 ≤ i / 16 + 1
    let metered := (List.range 192).filter fun i => r.target.getD i 0 == 0 && decide (0 < u.weights.getD i 0)
    let weight := (metered.map fun i => u.weights.getD i 0).sum
    let M := (metered.map fun i => u.weights.getD i 0 * mean i).sum / weight
    (r.night, r.counter) =
      (if against then if word 7 ≤ u.counter + 1 then (other, 0) else (u.night, u.counter + 1) else (u.night, 0)) ∧
    (∀ i, i < 192 → ∃ most, r.target.getD i 0 = min (word 4) most ∧ own i ≤ most ∧
      (∀ j, near i j → own j / 2 ≤ most) ∧ (most = own i ∨ ∃ j, near i j ∧ most = own j / 2)) ∧
    (weight = 0 → r.index = u.index ∧ r.pinned = u.pinned) ∧
    (∀ e, u.index = some e → weight ≠ 0 →
      let e' := stepIndex u.exposeWords e M
      let target := exposeWord u.exposeWords 0
      let band := exposeWord u.exposeWords 1
      r.index = some e' ∧
      r.pinned =
        if (M + band < target ∧ e' = exposeWord u.exposeWords 5) ∨
            (target + band < M ∧ e' = exposeWord u.exposeWords 4) then min 255 (u.pinned + 1) else 0) ∧
    r.exposurePinned = decide (u.pinnedFrames ≤ r.pinned)

/-- One step of E (R114). Within the dead band E is kept. Outside it the step is the difference over 2^s, at least 1 and
at most MaxStep; E moves up by it when the metered mean is below the target and down when it is above, limited to the
Emin to Emax taken. An E within the limits therefore stays within them and moves by at most MaxStep. -/
def Obligations.ExposureStepBounded : Prop :=
  ∀ (words : List Nat) (e mean : Nat),
    let target := exposeWord words 0
    let band := exposeWord words 1
    let shift := exposeWord words 2
    let most := exposeWord words 3
    let lo := exposeWord words 4
    let hi := exposeWord words 5
    let e' := stepIndex words e mean
    (target ≤ mean + band → mean ≤ target + band → e' = e) ∧
    (mean + band < target → e' = max lo (min hi (e + min most (max 1 ((target - mean) / 2 ^ shift))))) ∧
    (target + band < mean → e' = max lo (min hi (e - min most (max 1 ((mean - target) / 2 ^ shift))))) ∧
    (lo ≤ e → e ≤ hi → lo ≤ e' ∧ e' ≤ hi ∧ e' ≤ e + most ∧ e ≤ e' + most)

/-- The completion of a frame-end update. Dropped: it stores nothing and is no longer in flight (R65, R96). Otherwise
the night state, the counter, the zone count and GLARE_WIDE, the maps and the next map with the knee taken, the next map
ready flag, E, the pinned counter and EXPOSURE_PINNED are stored as computed, the maps and E limited by a swap taken
meanwhile, and the command logic runs (R65, R95, R116). With no update in flight nothing happens (log 1). The model's
deductions: the results are computed at the completion (log 19), and the limits are the values that the swap took (log
20). -/
def Obligations.UpdateCompletes : Prop :=
  ∀ (x : Side) (s : State), s.resetHeld = false →
    ((s.side x).glare.update = none → exec (.frameEndUpdateCompletion x) s = .next s) ∧
    (∀ u, (s.side x).glare.update = some u → u.dropped = true →
      exec (.frameEndUpdateCompletion x) s =
        .next (s.onSide x fun d => { d with glare := { d.glare with update := none } })) ∧
    (∀ u, (s.side x).glare.update = some u → u.dropped = false →
      ∃ t, exec (.frameEndUpdateCompletion x) s = .next t ∧
        let r := u.result (s.side x).stats.published
        let limit := fun (m : List Nat) => match u.clamp with
          | none => m
          | some c => m.map (min c.maxAtten)
        let index := match u.clamp with
          | none => r.index
          | some c => r.index.map fun e => if e < c.emin then c.emin else if c.emax < e then c.emax else e
        (t.side x).glare =
          ⟨r.night, r.counter, limit r.target, limit r.current, limit r.current, glareWord u.glareWords 0, r.zoneCount,
            none⟩ ∧
        (t.side x).pipe = { (s.side x).pipe with nextReady := true } ∧
        (t.side x).exposure =
          Exposure.commandLogic { (s.side x).exposure with index := index, pinned := r.pinned } ∧
        (t.side x).cond =
          { (s.side x).cond with glareWide := r.glareWide, exposurePinned := r.exposurePinned } ∧
        t.besideSupervision x =
          (s.onSide x fun d =>
            { d with
              glare := (t.side x).glare, pipe := (t.side x).pipe, exposure := (t.side x).exposure
              cond := (t.side x).cond }).besideSupervision x)

/-- The completion of a transmission on a command lane: a WAITING_TX slot is sent first, as an EXPOSURE cell with its
tag and E, and becomes SENT with its ack counter at 0; else the head of the pass-through queue is sent as a PASS cell;
else the lane becomes IDLE; nothing else changes (R118, R119). With an idle lane nothing happens (log 1). -/
def Obligations.CommandLaneCompletes : Prop :=
  ∀ (x : Side) (s : State), s.resetHeld = false →
    ((s.side x).exposure.lane = .idle → exec (.commandLaneTxCompletion x) s = .next s) ∧
    ((s.side x).exposure.lane ≠ .idle →
      exec (.commandLaneTxCompletion x) s =
        .next (s.onSide x fun d =>
          { d with
            exposure :=
              match d.exposure.slot, d.exposure.passQueue with
              | .waitingTx tag index, _ =>
                { d.exposure with lane := .exposure (exposureCell tag index), slot := .sent tag index 0 }
              | _, payload :: rest => { d.exposure with lane := .pass (passCell payload), passQueue := rest }
              | _, [] => { d.exposure with lane := .idle } }))

/-- The command logic (R117): with E set and different from the last commanded E, which an unknown one always is, and
the slot EMPTY, the tag counter advances modulo 16, the last commanded E becomes E, and the slot holds the new tag and E
in WAITING_TX while the lane is sending; on an IDLE lane the transmitter sends the command at once and the slot is SENT
with its ack counter at 0 (R118, R119). If one of these does not hold, nothing changes. It runs when an undamaged status
cell with the slot's tag empties the slot (R122): the slot then holds the next command, or is EMPTY if E is the last
commanded E. That the command is SENT in the same step is marked in log 34. -/
def Obligations.CommandLogicRuns : Prop :=
  (∀ e : Exposure,
    (∀ index, e.index = some index → e.last ≠ some index → e.slot = .empty →
      let made := { e with tag := e.tag + 1, last := some index }
      (e.lane ≠ .idle → e.commandLogic = { made with slot := .waitingTx (e.tag + 1) index }) ∧
      (e.lane = .idle →
        e.commandLogic =
          { made with
            slot := .sent (e.tag + 1) index 0, lane := .exposure (exposureCell (e.tag + 1) index) })) ∧
    (e.index = none ∨ e.last = e.index ∨ e.slot ≠ .empty → e.commandLogic = e)) ∧
  (∀ (x : Side) (body : List Byte) (s : State), s.resetHeld = false → (s.side x).pipe.waiting = none →
    cellGood 0x04 10 body = true →
    let e := (s.side x).exposure
    let tag := (statusFields body false).tag
    (∀ index, e.slot = .waitingTx tag index ∨ (∃ acks, e.slot = .sent tag index acks) →
      ∃ t, exec (.cameraStatus x body) s = .next t ∧ (t.side x).cond.cameraNoAck = false ∧
        (e.last = e.index → (t.side x).exposure = { e with slot := .empty }) ∧
        (∀ new, e.index = some new → e.last ≠ some new → e.lane ≠ .idle →
          (t.side x).exposure =
            { e with tag := e.tag + 1, last := some new, slot := .waitingTx (e.tag + 1) new }) ∧
        (∀ new, e.index = some new → e.last ≠ some new → e.lane = .idle →
          (t.side x).exposure =
            { e with
              tag := e.tag + 1, last := some new, slot := .sent (e.tag + 1) new 0
              lane := .exposure (exposureCell (e.tag + 1) new) })))

/-! ## Display links -/

/-- The completion of a LINE offers the arbiter one choice (R176, R177): a report of side A that is pending on the link,
else one of side B, else the head response if it is ready; the cell chosen is sent, built from the state as it stands,
its flag or its slot cleared; with nothing to choose the next frame cell follows: of a standalone frame its next line,
or its FRAME END if it has been cut short or has sent its last line (R166, R167, R175); of a follow frame with lines to
come, the line at the head of the egress line buffer, which leaves the buffer as its transmission begins (R174); of a
follow frame that has ended and has sent every line, its FRAME END (R175). While the first frame in progress still waits
for its FRAME START, that is the next frame cell (R173). With no frame in progress, or a follow frame whose next line
has not come or whose end has not been handed over, the lane becomes IDLE. Nothing beside the egress side changes. -/
def Obligations.EgressLineCompletes : Prop :=
  ∀ (x : Side) (s : State) (bytes : List Byte), s.resetHeld = false → (s.link x).lane = .sending .line bytes →
    ((s.link x).reportA = true →
      exec (.egressLineCompletion x) s =
        .next (s.onLink x fun l => { l with lane := .sending .report (reportCell s .a), reportA := false })) ∧
    ((s.link x).reportA = false → (s.link x).reportB = true →
      exec (.egressLineCompletion x) s =
        .next (s.onLink x fun l => { l with lane := .sending .report (reportCell s .b), reportB := false })) ∧
    (∀ r rest, (s.link x).reportA = false → (s.link x).reportB = false →
      (s.link x).responses = .ready r :: rest →
      exec (.egressLineCompletion x) s =
        .next (s.onLink x fun l => { l with lane := .sending .response r.bytes, responses := rest })) ∧
    ((s.link x).reportA = false → (s.link x).reportB = false → (∀ r rest, (s.link x).responses ≠ .ready r :: rest) →
      exec (.egressLineCompletion x) s = .next (s.onLink x fun l => { l with lane := .idle }.nextFrameCell) ∧
      ((s.link x).frames = [] → exec (.egressLineCompletion x) s = .next (s.onLink x fun l => { l with lane := .idle })) ∧
      (∀ c starts, (s.link x).frames ≠ [] → (s.link x).waitingStarts = c :: starts →
        (s.link x).frames.length ≤ (s.link x).waitingStarts.length →
        exec (.egressLineCompletion x) s = .next (s.onLink x fun l => { l with lane := .sending .frameStart c.bytes })) ∧
      (∀ f rest, (s.link x).frames = f :: rest → (s.link x).waitingStarts.length < (s.link x).frames.length →
        (∀ line lines, f.source = .follow → f.sent < f.height → (s.link x).buffer = line :: lines →
          exec (.egressLineCompletion x) s =
            .next (s.onLink x fun l =>
              { l with
                lane := .sending .line line.bytes, buffer := lines
                frames := { f with sent := f.sent + 1 } :: rest })) ∧
        (f.source = .follow →
            (f.sent < f.height ∧ (s.link x).buffer = []) ∨ (f.height ≤ f.sent ∧ f.ended = false) →
          exec (.egressLineCompletion x) s = .next (s.onLink x fun l => { l with lane := .idle })) ∧
        (f.source = .standalone → f.ended = false → f.sent < f.height →
          exec (.egressLineCompletion x) s =
            .next (s.onLink x fun l =>
              { l with
                lane := .sending .line (OutLine.bytes ⟨f.sent, List.replicate f.width f.colour⟩)
                frames := { f with sent := f.sent + 1 } :: rest })) ∧
        ((f.source = .standalone ∧ (f.ended = true ∨ f.height ≤ f.sent)) ∨
            (f.source = .follow ∧ f.ended = true ∧ f.height ≤ f.sent) →
          exec (.egressLineCompletion x) s =
            .next (s.onLink x fun l => { l with lane := .sending .frameEnd frameEndCell }))))

/-- The completion of a FRAME END: its frame leaves the frames in progress (R175); with an active bank the scrubber
checks the 128 words from the cursor on, with wrap, a failed one being a finding, and moves the cursor by 128 modulo 706
(R50, R52); the first failure of a batch is its lowest-numbered word (log 31). The frame-end run opens, and closes at
once if a FRAME START waits, which is then sent; with none waiting and no standalone frame start that takes place now, a
pending report of side A is the run's first cell, built from the state as the scrub leaves it, and with nothing to
choose the run closes (R176 to R178). A standalone frame start that takes place now comes before the run's first choice:
log 11. The banks and the other side are kept. -/
def Obligations.EgressFrameEndCompletes : Prop :=
  ∀ (x : Side) (s : State) (bytes : List Byte), s.resetHeld = false → (s.link x).lane = .sending .frameEnd bytes →
    ∃ t, exec (.egressFrameEndCompletion x) s = .next t ∧
      let d := s.side x
      let e := t.side x
      let l := s.link x
      let startsNow := d.standaloneDue = true ∧ d.source = .standalone ∧ l.frames.drop 1 = []
      let batch := (List.range 706).filter fun w => decide ((w + 706 - d.store.scrub) % 706 < 128)
      (t.link x).frames.length = l.frames.length - 1 ∧
      e.store.bank0 = d.store.bank0 ∧ e.store.bank1 = d.store.bank1 ∧
      (∀ i, d.store.active = some i →
        e.store.scrub = (d.store.scrub + 128) % 706 ∧
        e.cond.tableParity = (d.cond.tableParity || batch.any fun w => ((d.store.bank i).read w).failed) ∧
        e.store.parity = d.store.parity.found i (d.store.bank i) batch) ∧
      (d.store.active = none → e = d) ∧
      (∀ c f, l.waitingStarts = [c] → l.frames.drop 1 = [f] →
        (t.link x).lane = .sending .frameStart c.bytes ∧ (t.link x).run = none) ∧
      (l.waitingStarts = [] → ¬ startsNow → l.reportA = true →
        (t.link x).lane = .sending .report (reportCell t .a) ∧ (t.link x).run = some 1 ∧
        (t.link x).reportA = false) ∧
      (l.waitingStarts = [] → ¬ startsNow → l.reportA = false → l.reportB = false → l.frames.drop 1 = [] →
        (∀ r rest, l.responses ≠ .ready r :: rest) → e.cond = d.cond →
        (t.link x).lane = .idle ∧ (t.link x).run = none) ∧
      (startsNow → (t.link x).lane = .idle ∧ (t.link x).run = some 0) ∧
      (∀ y, y ≠ x → t.side y = s.side y)

/-- The completion of a FRAME START: the cell leaves the waiting FRAME START (R173), and the next frame cell follows;
line 0 of a lone standalone frame in progress is sent at once (R166, R174), and of one that has been cut short the FRAME
END (R167, R175); of a follow frame with lines to come the head of the egress line buffer is sent and leaves the buffer
(R174), and with an empty buffer the lane becomes IDLE. The completion of an inserted cell: with no run open the next
frame cell follows, here too the head of the buffer for a follow frame with lines to come, which leaves it, and an IDLE
lane with an empty buffer. With a run open at 8 cells, or with a FRAME START waiting, the run closes and the next frame
cell follows, which is the waiting FRAME START if no frame stands before it. With a run open below 8 and no FRAME START
waiting, a pending report of side A is chosen next, else one of side B, else the head response if it is ready, and the
run's count rises; with nothing to choose the run closes and the next frame cell follows (R176, R177). Neither changes
anything beside the egress side. -/
def Obligations.StartAndInsertedComplete : Prop :=
  ∀ (x : Side) (s : State) (bytes : List Byte), s.resetHeld = false →
    let followLine := fun (t : State) (l : LinkState) =>
      ∀ f rest, l.frames = f :: rest → l.waitingStarts.length < l.frames.length → f.source = .follow →
        f.sent < f.height →
        (∀ line lines, l.buffer = line :: lines →
          t = s.onLink x fun _ =>
            { l with
              lane := .sending .line line.bytes, buffer := lines, frames := { f with sent := f.sent + 1 } :: rest }) ∧
        (l.buffer = [] → t = s.onLink x fun _ => { l with lane := .idle })
    ((s.link x).lane = .sending .frameStart bytes →
      ∃ t, exec (.egressFrameStartCompletion x) s = .next t ∧ t.besideEgress x = s.besideEgress x ∧
        ((s.link x).run = none → followLine t { s.link x with waitingStarts := (s.link x).waitingStarts.drop 1 }) ∧
        (t.link x).waitingStarts = (s.link x).waitingStarts.drop 1 ∧
        (∀ c w h colour, (s.link x).waitingStarts = [c] → (s.link x).run = none → 0 < h →
          (s.link x).frames = [⟨.standalone, w, h, colour, 0, false⟩] →
          (t.link x).lane = .sending .line (OutLine.bytes ⟨0, List.replicate w colour⟩) ∧
          (t.link x).frames = [⟨.standalone, w, h, colour, 1, false⟩]) ∧
        (∀ f rest, (s.link x).run = none → (s.link x).frames = f :: rest →
          (s.link x).waitingStarts.length ≤ (s.link x).frames.length → f.source = .standalone → f.ended = true →
          (t.link x).lane = .sending .frameEnd frameEndCell)) ∧
    ((s.link x).lane = .sending .report bytes ∨ (s.link x).lane = .sending .response bytes →
      ∃ t, exec (.insertedCellCompletion x) s = .next t ∧ t.besideEgress x = s.besideEgress x ∧
        ((s.link x).run = none →
          t = s.onLink x (fun l => { l with lane := .idle }.nextFrameCell) ∧ followLine t (s.link x)) ∧
        (∀ n, (s.link x).run = some n →
          (8 ≤ n ∨ (s.link x).waitingStarts ≠ [] →
            t = s.onLink x (fun l => { l with lane := .idle, run := none }.nextFrameCell) ∧
            followLine t { s.link x with run := none }) ∧
          (∀ c rest, (s.link x).waitingStarts = c :: rest → (s.link x).frames.length ≤ rest.length + 1 →
            (s.link x).frames ≠ [] → (t.link x).lane = .sending .frameStart c.bytes ∧ (t.link x).run = none) ∧
          (n < 8 → (s.link x).waitingStarts = [] →
            ((s.link x).reportA = true →
              (t.link x).lane = .sending .report (reportCell s .a) ∧
              (t.link x).run = some (n + 1) ∧ (t.link x).reportA = false) ∧
            ((s.link x).reportA = false → (s.link x).reportB = true →
              (t.link x).lane = .sending .report (reportCell s .b) ∧
              (t.link x).run = some (n + 1) ∧ (t.link x).reportB = false) ∧
            (∀ r rest, (s.link x).reportA = false → (s.link x).reportB = false →
              (s.link x).responses = .ready r :: rest →
              (t.link x).lane = .sending .response r.bytes ∧ (t.link x).run = some (n + 1) ∧
              (t.link x).responses = rest) ∧
            ((s.link x).reportA = false → (s.link x).reportB = false →
              (∀ r rest, (s.link x).responses ≠ .ready r :: rest) →
              t = s.onLink x (fun l => { l with lane := .idle, run := none }.nextFrameCell) ∧
              followLine t { s.link x with run := none }))))

/-- The delivery of a waiting line, when the egress line buffer has room: it joins the buffer's tail (R174), and on an
idle lane with its frame begun it is sent at once. Only then does the handling it belongs to go on, by the lines that
the buffer takes. With room for this one line and a lane that is sending, the next line that the cell fills is
developed, tapped and counted missing, and waits; after the last of them the cell's own line is developed and waits; the
next line that an expiry of the frame timeout fills does as that of a cell (R21, R215); and the next line that a SIDE
RESTART has left is developed with the values in use before the restart, and waits (R10, R17, R21, R67, R77, R88). With
no line waiting or no room nothing happens (log 1). That the lines of a SIDE RESTART follow it as room comes, neither
tapped nor counted, is log 6, that n keeps its value while a filled line waits is log 13, and that an expiry waits for
its lines is log 36. -/
def Obligations.WaitingLineDelivered : Prop :=
  ∀ (x : Side) (s : State), s.resetHeld = false →
    let d := s.side x
    let l := s.link x
    let next := fun (line : OutLine) (f : SideState → SideState) (w : Option Waiting) =>
      (s.onSide x fun d => { f d with pipe := { (f d).pipe with waiting := w } }).onLink x fun l =>
        { l with buffer := l.buffer ++ [line] }
    let fill := fun (line : OutLine) (y : Nat) (goesOn : After) =>
      next line
        (fun d =>
          { d with
            recv := { d.recv with missing := d.recv.missing + 1 }
            stats := { d.stats with gathering := tapLine d.pipe.inUse y d.recv.lastGood d.stats.gathering } })
        (some ⟨shapeLine d.pipe.inUse d.pipe.shaping y d.recv.lastGood, goesOn⟩)
    (∀ line after, d.pipe.waiting = some ⟨line, after⟩ → l.buffer.length < 4 →
      (∃ t, exec (.deferredLineDelivery x) s = .next t) ∧
      (l.lane ≠ .idle → l.buffer.length = 3 →
        (∀ y c, after = .cell y c → y < d.fillStop c →
          exec (.deferredLineDelivery x) s = .next (fill line y (.cell (y + 1) c))) ∧
        (∀ y, after = .expiry y → y < d.frameHeight →
          exec (.deferredLineDelivery x) s = .next (fill line y (.expiry (y + 1)))) ∧
        (∀ y body, after = .cell y ⟨.line, body⟩ → lineNumber body ≤ y →
          let good := correctLine d.pipe.inUse (lineNumber body) (linePixels body)
          exec (.deferredLineDelivery x) s =
            .next (next line
              (fun d =>
                { d with
                  recv :=
                    { d.recv with
                      expected := lineNumber body + 1, signature := d.recv.signature + cellCrc body, lastGood := good }
                  stats :=
                    { d.stats with gathering := tapLine d.pipe.inUse (lineNumber body) good d.stats.gathering } })
              (some ⟨shapeLine d.pipe.inUse d.pipe.shaping (lineNumber body) good, .handled⟩))) ∧
        (∀ r, after = .abandoned r → r.next < r.stop →
          exec (.deferredLineDelivery x) s =
            .next (next line (fun d => d)
              (some
                ⟨shapeLine r.values r.shaping r.next r.lastGood, .abandoned { r with next := r.next + 1 }⟩)))) ∧
      (∀ f rest, after = .handled → frameTimeoutDue s x = false → d.recv.held = [] →
        (∀ y, restartAtHead s x y = []) → l.lane = .idle → l.run = none → l.buffer = [] → l.waitingStarts = [] →
        l.frames = f :: rest → f.source = .follow → f.sent < f.height →
        exec (.deferredLineDelivery x) s =
          .next ((s.onSide x fun d => { d with pipe := { d.pipe with waiting := none } }).onLink x fun l =>
            { l with lane := .sending .line line.bytes, frames := { f with sent := f.sent + 1 } :: rest }))) ∧
    (d.pipe.waiting = none ∨ 4 ≤ l.buffer.length → exec (.deferredLineDelivery x) s = .next s)

/-- While a line of the side waits, a cell of its camera link is held behind those held already, and nothing else
changes (R174). When the delivery of a line completes a handling, what waited for it is taken in order: the expiry of
the frame timeout if it is due (R21), a SIDE RESTART of the side at the head of link A's and of link B's request queue
(R27), and the cells held, which wait on if one of them leaves a line waiting. This holds after the last line of a LINE
cell, and after the last line that a FRAME END fills, which then runs as it does with no line left, and that a FRAME
START fills, which goes on as it does after that FRAME END (R4, R17). It holds too after the last line that an expiry of
the frame timeout fills, which then does what it does with no line left: the FRAME END is handed over, LINK_LOSS is
evaluated and the source becomes STANDALONE (R215). After the last line that a SIDE RESTART has left, the cells held are
taken. That what waited is taken in the same step and in this order is the model's choice (log 7); n keeps its value
(log 13), and an expiry waits for its lines (log 36). -/
def Obligations.HeldUntilHandled : Prop :=
  (∀ (x : Side) (c : CameraCell) (s : State), s.resetHeld = false → (s.side x).pipe.waiting.isSome = true →
    exec (c.command x) s = .next (s.onSide x fun d => { d with recv := { d.recv with held := d.recv.held ++ [c] } })) ∧
  (∀ (x : Side) (s : State) (line : OutLine) (after : After), s.resetHeld = false →
    (s.side x).pipe.waiting = some ⟨line, after⟩ → (s.link x).buffer.length < 4 →
    let u := (deliverWaiting s x line).onSide x fun d => { d with recv := { d.recv with held := [] } }
    (after = .handled → exec (.deferredLineDelivery x) s = runCommands (afterHandling s x) u) ∧
    (∀ r, after = .abandoned r → r.stop ≤ r.next →
      exec (.deferredLineDelivery x) s =
        runCommands ((s.side x).recv.held.map fun c => c.command x) u) ∧
    (∀ y start, after = .expiry y → (s.side x).recv.state = .receiving → (s.side x).frameHeight ≤ y →
      let due := u.onSide x fun d =>
        { d with frameTimer := some start, recv := { d.recv with expected := d.frameHeight } }
      frameTimeoutDue due x = true →
      ∃ v, exec (.frameTimeoutExpiry x) due = .next v ∧
        exec (.deferredLineDelivery x) s =
          runCommands (afterHandling s x)
            (v.onSide x fun d => { d with recv := { d.recv with expected := (s.side x).recv.expected } })) ∧
    (∀ y body, cellGood 0x03 3 body = true → (s.side x).recv.state = .receiving → (s.side x).frameHeight ≤ y →
      ∃ v, exec (.cameraFrameEnd x body)
          (u.onSide x fun d => { d with recv := { d.recv with expected := d.frameHeight } }) = .next v ∧
        let w := v.onSide x fun d => { d with recv := { d.recv with expected := (s.side x).recv.expected } }
        (after = .cell y ⟨.frameEnd, body⟩ →
          exec (.deferredLineDelivery x) s = runCommands (afterHandling s x) w) ∧
        (∀ start, after = .cell y ⟨.frameStart, start⟩ → cellGood 0x01 8 start = true →
          exec (.deferredLineDelivery x) s = runCommands (.cameraFrameStart x start :: afterHandling s x) w)))

/-- An undamaged REQUEST joins the tail of a request queue that holds fewer than 4 cells; a damaged or malformed one, or
one that finds 4, is discarded and adds 1 to the discarded requests count, saturating at 255; nothing else changes
(R182). -/
def Obligations.RequestQueued : Prop :=
  ∀ (x : Side) (body : List Byte) (s : State), s.resetHeld = false →
    exec (.request x body) s =
      if requestGood body = true ∧ (s.link x).requests.length < 4 then
        .next (s.onLink x fun l => { l with requests := l.requests ++ [requestFields body] })
      else
        .next (s.onLink x fun l =>
          { l with display := { l.display with discarded := min 255 (l.display.discarded + 1) } })

/-! ## Management requests -/

/-- A READ that names an object, a side if the object is kept per side, and a range within it is answered DATA with the
items of that object in index order, taken from the state as it stands; it changes nothing, but that a READ of the
TIMING RECORD clears the unread and overrun flags (R188, R190). One that names no object, or no side, is refused
UNKNOWN, and one out of range RANGE, changing nothing (R187, R188). -/
def Obligations.ReadAnswered : Prop :=
  ∀ (x : Side) (r : Request) (s : State), CanTake s x r → r.kind = 0x01 →
    (8 < r.id.toNat → exec (.read x) s = .next (answered s x (.refused .unknown))) ∧
    (r.id.toNat < 8 → r.names = none → exec (.read x) s = .next (answered s x (.refused .unknown))) ∧
    (∀ o y, objectOf r.id.toNat = some o → (if o = .partStatus then y = .a else r.names = some y) →
      exec (.read x) s =
        if r.count.toNat = 0 ∨ 8 < r.count.toNat * o.size ∨ o.items < r.index.toNat + r.count.toNat then
          .next (answered s x (.refused .range))
        else
          .next (answered
            (if o = .timing then
              s.onSide y fun d => { d with timing := { d.timing with unread := false, overrun := false } }
            else s) x
            (.data ((List.range r.count.toNat).flatMap fun k => objectItem s y o (r.index.toNat + k)))))

/-- A WRITE SETTINGS that is in range is answered DONE; each setting written then reads as R193 converts it, every other
setting of the side, and every setting 0 to 31 of the other side, reads as before; a write of CaptureDivider makes the
reference absent (R33, R191, R193, R194). Refusals: UNKNOWN for the side or a first number above 32, then RANGE. -/
def Obligations.SettingsWritten : Prop :=
  ∀ (x : Side) (r : Request) (s : State), CanTake s x r → r.kind = 0x02 →
    (r.names = none ∨ 32 < r.id.toNat → exec (.writeSettings x) s = .next (answered s x (.refused .unknown))) ∧
    (∀ y, r.names = some y → r.id.toNat ≤ 32 →
      (r.count.toNat = 0 ∨ 8 < r.count.toNat ∨ r.payload.length ≠ 4 * r.count.toNat ∨
        33 < r.id.toNat + r.count.toNat →
        exec (.writeSettings x) s = .next (answered s x (.refused .range))) ∧
      (r.count.toNat ≠ 0 → r.count.toNat ≤ 8 → r.payload.length = 4 * r.count.toNat →
        r.id.toNat + r.count.toNat ≤ 33 →
        ∃ t, exec (.writeSettings x) s = .next t ∧
          (t.link x).responses = (s.link x).responses ++ [.ready .done] ∧
          (∀ k, k < r.count.toNat →
            settingItem t y (r.id.toNat + k) =
              convertedSetting (r.id.toNat + k) ((payloadWords r.payload).getD k 0)) ∧
          (∀ n, n < 33 → (n < r.id.toNat ∨ r.id.toNat + r.count.toNat ≤ n) → settingItem t y n = settingItem s y n) ∧
          (r.id.toNat ≤ 3 → 3 < r.id.toNat + r.count.toNat →
            (t.side y).timing = { (s.side y).timing with reference := none, divider := 0 }) ∧
          (∀ z, z ≠ y → t.side z = s.side z) ∧ (t.side y).store = (s.side y).store ∧
          (t.side y).recv = (s.side y).recv ∧ (t.side y).exposure = (s.side y).exposure))

/-- A TABLE WRITE is refused UNKNOWN for its side or table, then RANGE, then BUSY while the side has an operation in
flight or a commit pending, and a refused one writes nothing. Otherwise the words stand in the shadow bank at the index
given and the indices that follow, each with good parity, every other word of both banks reads as before, the active
bank is untouched, and the answer is DONE (R45, R53). -/
def Obligations.TableWritten : Prop :=
  ∀ (x : Side) (r : Request) (s : State), CanTake s x r → r.kind = 0x03 →
    (r.names = none ∨ 5 < r.id.toNat → exec (.tableWrite x) s = .next (answered s x (.refused .unknown))) ∧
    (∀ y, r.names = some y → r.id.toNat ≤ 5 →
      let bad := r.count.toNat = 0 ∨ 8 < r.count.toNat ∨ r.payload.length ≠ 2 * r.count.toNat ∨
        tableLength r.id.toNat < r.index.toNat + r.count.toNat
      let busy := (s.side y).store.op.isSome = true ∨ (s.side y).store.commitPending = true
      let first := tableOffset r.id.toNat + r.index.toNat
      let shadow := (s.side y).store.shadow
      (bad → exec (.tableWrite x) s = .next (answered s x (.refused .range))) ∧
      (¬ bad → busy → exec (.tableWrite x) s = .next (answered s x (.refused .busy))) ∧
      (¬ bad → ¬ busy → (s.side y).BanksCanonical →
        ∃ t, exec (.tableWrite x) s = .next t ∧
          (∀ k, k < r.count.toNat →
            ((t.side y).store.bank shadow).read (first + k) = ⟨(payloadHalves r.payload).getD k 0, false⟩) ∧
          (∀ w, (w < first ∨ first + r.count.toNat ≤ w) →
            ((t.side y).store.bank shadow).read w = ((s.side y).store.bank shadow).read w) ∧
          (∀ b, b ≠ shadow → (t.side y).store.bank b = (s.side y).store.bank b) ∧
          t = answered (s.onSide y fun d =>
            { d with store := { d.store with bank0 := (t.side y).store.bank0, bank1 := (t.side y).store.bank1 } })
            x .done))

/-- A TABLE READ is refused UNKNOWN for its side or its table id in bits 6-0, then RANGE; a read of ACTIVE with no
active bank is refused NO_BANK. A read of SHADOW returns the values as the memory holds them, flags clear, and changes
nothing. A read of ACTIVE returns the value used and the failed flag of each word; a failed word is a finding:
TABLE_PARITY becomes true, and the parity record keeps an earlier first failure or takes the first of these, and counts
each, saturating at 255; nothing else changes beside supervision (R50, R54). -/
def Obligations.TableReadAnswered : Prop :=
  ∀ (x : Side) (r : Request) (s : State), CanTake s x r → r.kind = 0x04 →
    let table := (r.id.extractLsb' 0 7).toNat
    (r.names = none ∨ 5 < table → exec (.tableRead x) s = .next (answered s x (.refused .unknown))) ∧
    (∀ y, r.names = some y → table ≤ 5 →
      let bad := r.count.toNat = 0 ∨ 8 < r.count.toNat ∨ tableLength table < r.index.toNat + r.count.toNat
      let words := (List.range r.count.toNat).map fun k => tableOffset table + r.index.toNat + k
      (bad → exec (.tableRead x) s = .next (answered s x (.refused .range))) ∧
      (¬ bad → r.id.msb = true →
        exec (.tableRead x) s =
          .next (answered s x (.data (words.map fun w =>
            BitVec.setWidth 32 (((s.side y).store.bank (s.side y).store.shadow).read w).value)))) ∧
      (¬ bad → r.id.msb = false → (s.side y).store.active = none →
        exec (.tableRead x) s = .next (answered s x (.refused .noBank))) ∧
      (∀ i, ¬ bad → r.id.msb = false → (s.side y).store.active = some i →
        ∃ t, exec (.tableRead x) s = .next t ∧
          let bank := (s.side y).store.bank i
          (t.link x).responses =
            (s.link x).responses ++
              [.ready (.data (words.map fun w =>
                BitVec.ofNat 32 ((bank.read w).used w + (if (bank.read w).failed then 65536 else 0))))] ∧
          (t.side y).cond.tableParity = ((s.side y).cond.tableParity || words.any fun w => (bank.read w).failed) ∧
          (t.side y).store.parity = (s.side y).store.parity.found i bank words ∧
          t.besideSupervision y =
            (answered (s.onSide y fun d =>
              { d with
                store := { d.store with parity := (t.side y).store.parity }
                cond := { d.cond with tableParity := (t.side y).cond.tableParity } }) x
              (.data (words.map fun w =>
                BitVec.ofNat 32 ((bank.read w).used w + (if (bank.read w).failed then 65536 else 0))))).besideSupervision
              y))

/-- COPY BANK and COMMIT BANK: refused UNKNOWN for the side, then, for a copy, NO_BANK, then BUSY, changing nothing.
Otherwise the operation begins with progress 0, taken from the link, and the slot stays reserved; nothing else changes
(R55, R58). -/
def Obligations.OperationsBegin : Prop :=
  ∀ (x : Side) (r : Request) (s : State), CanTake s x r →
    let begun := fun (y : Side) (k : OpKind) =>
      (s.onSide y fun d => { d with store := { d.store with op := some ⟨k, x, 0, false, 0, none⟩ } }).onLink x fun l =>
        { l with requests := l.requests.drop 1, responses := l.responses ++ [.reserved] }
    (r.kind = 0x05 →
      (r.names = none → exec (.copyBank x) s = .next (answered s x (.refused .unknown))) ∧
      (∀ y, r.names = some y →
        exec (.copyBank x) s =
          if (s.side y).store.active = none then .next (answered s x (.refused .noBank))
          else if (s.side y).store.op.isSome = true ∨ (s.side y).store.commitPending = true then
            .next (answered s x (.refused .busy))
          else .next (begun y .copy))) ∧
    (r.kind = 0x06 →
      (r.names = none → exec (.commitBank x) s = .next (answered s x (.refused .unknown))) ∧
      (∀ y, r.names = some y →
        exec (.commitBank x) s =
          if (s.side y).store.op.isSome = true ∨ (s.side y).store.commitPending = true then
            .next (answered s x (.refused .busy))
          else .next (begun y (.check r.index))))

/-- ACKNOWLEDGE is answered DONE: on the side named, the event flags of the groups selected by id bits 3-0 become clear
and the others are kept, the groups' states and settings and everything else of the side are kept; the reset notice
becomes clear if id bit 4 is set; FAULT is then judged; no report becomes pending. A side that names neither clears no
flag (R141, R148). -/
def Obligations.Acknowledged : Prop :=
  ∀ (x : Side) (r : Request) (s : State), CanTake s x r → r.kind = 0x07 →
    ∃ t, exec (.acknowledge x) s = .next t ∧ t.fault = faultOf t ∧
      t.notice = (if r.id.getLsbD 4 then none else s.notice) ∧
      (∀ y k, k < 4 →
        ((t.side y).groups.nth k) =
          { (s.side y).groups.nth k with
            flag := ((s.side y).groups.nth k).flag && !(decide (r.names = some y) && r.id.getLsbD k) }) ∧
      t = { answered s x .done with
            fault := t.fault, notice := t.notice
            sideA := { s.sideA with groups := t.sideA.groups }
            sideB := { s.sideB with groups := t.sideB.groups } }

/-- VIEW RESTORE: with the guard of the side named in HELD and the side restore-ready it is answered DONE and the guard
becomes WAITING with the countdown at RestoreFrames, or RESTORING with m = 64 if RestoreFrames is 0, a report becoming
pending on both links; in every other case it is refused NOT_READY and nothing changes (R157, R161). -/
def Obligations.ViewRestored : Prop :=
  ∀ (x : Side) (r : Request) (s : State), CanTake s x r → r.kind = 0x08 →
    ((∀ y, r.names = some y → ¬ ((s.side y).guard.state = .held ∧ (s.side y).guard.ready = true)) →
      exec (.viewRestore x) s = .next (answered s x (.refused .notReady))) ∧
    (∀ y, r.names = some y → (s.side y).guard.state = .held → (s.side y).guard.ready = true →
      let frames := (s.side y).settings.restoreFrames
      exec (.viewRestore x) s =
        .next (markReports ((answered s x .done).onSide y fun d =>
          { d with guard := ⟨if frames = 0 then .restoring else .waiting, 64, frames, true⟩ }) y))

/-- FORCE WARNING is answered DONE. FORCED of the side named becomes true unless id is 0, every other condition is kept,
and the groups are evaluated on a change: each group is then judged, an event sets its flag, and FAULT is exact. A value
FORCED already holds, or a side that names neither, changes nothing else (R131, R134, R135, R143). -/
def Obligations.WarningForced : Prop :=
  ∀ (x : Side) (r : Request) (s : State), CanTake s x r → r.kind = 0x09 →
    (r.names = none → exec (.forceWarning x) s = .next (answered s x .done)) ∧
    (∀ y, r.names = some y → (s.side y).cond.forced = decide (r.id ≠ 0) →
      exec (.forceWarning x) s = .next (answered s x .done)) ∧
    (∀ y, r.names = some y → (s.side y).cond.forced ≠ decide (r.id ≠ 0) →
      ∃ t, exec (.forceWarning x) s = .next t ∧
        (t.side y).cond = { (s.side y).cond with forced := decide (r.id ≠ 0) } ∧
        (∀ k, k < 4 →
          let g := (s.side y).groups.nth k
          let g' := (t.side y).groups.nth k
          g'.nonconforming = g.mismatch (t.side y).cond.vector ∧
          g'.flag = (g.flag || (g'.nonconforming && !g.nonconforming)) ∧
          g'.mask = g.mask ∧ g'.reference = g.reference ∧ g'.level = g.level ∧
          (g'.nonconforming = true → g.nonconforming = false → 1 ≤ g.level →
            ∀ z, (t.link z).report y = true) ∧
          (g'.nonconforming = true → g.nonconforming = false → g.level = 3 →
            (t.side y).guard.state = .fading ∨ (t.side y).guard.state = .held)) ∧
        t.fault = faultOf t ∧
        t.besideSupervision y =
          ((answered s x .done).onSide y fun d => { d with cond := (t.side y).cond }).besideSupervision y)

/-- CAMERA PASS is refused UNKNOWN, then RANGE, then BUSY while 4 cells wait, queueing nothing. Otherwise it is answered
DONE and the payload joins the tail of the pass-through queue (R125). With an idle lane the transmitter then chooses:
with an empty queue and no exposure command waiting the payload is sent at once as a PASS cell (R118, R119). -/
def Obligations.CameraPassQueued : Prop :=
  ∀ (x : Side) (r : Request) (s : State), CanTake s x r → r.kind = 0x0B →
    (r.names = none → exec (.cameraPass x) s = .next (answered s x (.refused .unknown))) ∧
    (∀ y, r.names = some y →
      let bad := r.count.toNat = 0 ∨ 8 < r.count.toNat ∨ r.payload.length ≠ r.count.toNat
      let e := (s.side y).exposure
      (bad → exec (.cameraPass x) s = .next (answered s x (.refused .range))) ∧
      (¬ bad → 4 ≤ e.passQueue.length → exec (.cameraPass x) s = .next (answered s x (.refused .busy))) ∧
      (¬ bad → e.passQueue.length < 4 → e.lane ≠ .idle →
        exec (.cameraPass x) s =
          .next (answered (s.onSide y fun d =>
            { d with exposure := { d.exposure with passQueue := d.exposure.passQueue ++ [r.payload] } }) x .done)) ∧
      (¬ bad → e.passQueue.length < 4 → e.lane = .idle →
        exec (.cameraPass x) s =
          .next (answered (s.onSide y fun d =>
            { d with exposure := Exposure.choose { d.exposure with passQueue := d.exposure.passQueue ++ [r.payload] } })
            x .done)) ∧
      (¬ bad → e.passQueue = [] → e.lane = .idle → (∀ tag index, e.slot ≠ .waitingTx tag index) →
        exec (.cameraPass x) s =
          .next (answered (s.onSide y fun d =>
            { d with exposure := { d.exposure with lane := .pass (closeCell (0x12 :: r.payload)) } }) x .done)))

/-- SIDE RESTART of a side a camera cell of which is in handling, or whose frame timeout is expiring, is not taken: it
stays at the head and nothing changes (R27, log 18). SIDE RESTART of any other side: the operation in flight ends with
REFUSED ABORTED in its link's reserved slot and the pending commit is cancelled (R57, R60, R66); a frame in progress is
abandoned, its lines developed with the values in use before the restart (R27, R88); the receiver goes to WAIT_START
with its counts, signatures and freeze counter cleared and its frame number kept (R27); the status and timing records
are emptied and the frame timeout stops (R27, R43); the statistics are emptied, the night state is DAY, the maps are 0,
an update in flight is to drop its results (R88, R107); the exposure slot and the pass-through queue are emptied, E is
the Einit of the active bank, for a failed word the least index of the limits in force, or unset with no active bank
(R110, R111), the tag counter 0, the last commanded E unknown (R129); the guard holds m at 64, in HELD or in the
restoration that follows at once (R159, R171); the source is STANDALONE (R165); positions 1 to 11 of the vector become
false and LINK_LOSS true (R151); a failed Einit is a finding (R49, R50); the banks, the active bank, the frame size in
use, the scrub cursor, the settings, the time base and the other side are kept (R196). The request is answered DONE, on
the link it was taken from, for a side that is named and for one that is not (R195). The model's choices: with no room
in the egress line buffer for all the lines of the abandonment, the restart takes effect at once and the lines that find
none follow as room comes (log 6); the first standalone frame start is due at once (logs 11, 17). -/
def Obligations.SideRestarted : Prop :=
  ∀ (x : Side) (r : Request) (s : State), CanTake s x r → r.kind = 0x0C →
    (r.names = none → exec (.sideRestart x) s = .next (answered s x .done)) ∧
    (∀ y w, r.names = some y → (s.side y).pipe.waiting = some w → (∀ left, w.after ≠ .abandoned left) →
      exec (.sideRestart x) s = .next s) ∧
    (∀ y, r.names = some y → (∀ w, (s.side y).pipe.waiting = some w → ∃ left, w.after = .abandoned left) →
      ∃ t, exec (.sideRestart x) s = .next t ∧
        let d := s.side y
        let e := t.side y
        e.recv.state = .waitStart ∧ e.recv.expected = 0 ∧ e.recv.frameNumber = d.recv.frameNumber ∧
        e.recv.damaged = 0 ∧ e.recv.missing = 0 ∧ e.recv.discarded = 0 ∧ e.recv.signature = 0 ∧
        e.recv.prevSignature = none ∧ e.recv.prevFrame = none ∧ e.recv.freeze = 0 ∧
        (∀ p ∈ e.recv.lastGood, p = Rgb.black) ∧ e.recv.lastGood.length = d.recv.lastGood.length ∧
        e.status = .empty ∧ e.timing = .empty ∧ e.frameTimer = none ∧
        e.source = .standalone ∧ e.standaloneDue = true ∧
        e.stats.gathering = .empty ∧ e.stats.published = .empty ∧ e.glare.night = .day ∧ e.glare.counter = 0 ∧
        e.glare.target = zeroMap ∧ e.glare.current = zeroMap ∧ e.glare.next = zeroMap ∧ e.glare.zoneCount = 0 ∧
        (∀ u, e.glare.update = some u → u.dropped = true) ∧
        e.pipe.map = zeroMap ∧ e.pipe.knee = 4095 ∧ e.pipe.nextReady = false ∧ e.pipe.fade = 64 ∧
        e.exposure.slot = .empty ∧ e.exposure.tag = 0 ∧ e.exposure.last = none ∧ e.exposure.pinned = 0 ∧
        e.exposure.passQueue = [] ∧ e.exposure.limits = d.exposure.limits ∧ e.exposure.lane = d.exposure.lane ∧
        (d.store.active = none → e.exposure.index = none ∧ e.cond.tableParity = d.cond.tableParity ∧
          e.store.parity = d.store.parity) ∧
        (∀ i, d.store.active = some i →
          let word := (d.store.bank i).read 705
          e.exposure.index =
            some
              (if word.failed then (match d.exposure.limits with | none => 0 | some l => l.1)
              else word.value.toNat) ∧
          e.cond.tableParity = (d.cond.tableParity || word.failed) ∧
          e.store.parity = d.store.parity.found i (d.store.bank i) [705]) ∧
        (d.recv.state ≠ .receiving → e.pipe.waiting = d.pipe.waiting) ∧
        (d.recv.state = .receiving → d.pipe.waiting = none → (s.link y).lane ≠ .idle →
          let n := d.recv.expected
          let total := d.frameHeight - n
          let room := (s.link y).room
          (total ≤ room →
            e.pipe.waiting = none ∧ (t.link y).buffer = (s.link y).buffer ++ filledLines d n total) ∧
          (room < total →
            e.pipe.waiting =
              some
                ⟨shapeLine d.pipe.inUse d.pipe.shaping (n + room) d.recv.lastGood,
                  .abandoned ⟨d.pipe.inUse, d.pipe.shaping, d.recv.lastGood, n + room + 1, d.frameHeight⟩⟩ ∧
            (t.link y).buffer = (s.link y).buffer ++ filledLines d n room)) ∧
        ((s.link y).lane ≠ .idle → d.recv.state = .receiving →
          (t.link y).frames =
            (s.link y).frames.map fun f => if f.source = .follow then { f with ended := true } else f) ∧
        e.store.op = none ∧ e.store.commitPending = false ∧ e.store.active = d.store.active ∧
        e.store.bank0 = d.store.bank0 ∧ e.store.bank1 = d.store.bank1 ∧ e.store.frameSize = d.store.frameSize ∧
        e.store.scrub = d.store.scrub ∧ e.settings = d.settings ∧
        e.cond =
          { Conditions.reset with
            displayFault := d.cond.displayFault, noTables := d.cond.noTables, forced := d.cond.forced
            tableParity := e.cond.tableParity } ∧
        e.guard.m = 64 ∧ (e.guard.state = .held ∨ e.guard.state = .waiting ∨ e.guard.state = .restoring) ∧
        (∀ op, d.store.op = some op → (d.recv.state ≠ .receiving ∨ op.link ≠ y) →
          (t.link op.link).responses = fillReserved (s.link op.link).responses (.refused .aborted)) ∧
        (t.link x).responses.getLast? = some (.ready .done) ∧ (t.link x).requests = (s.link x).requests.drop 1 ∧
        t.timeBase = s.timeBase ∧ t.notice = s.notice ∧ t.warn = s.warn ∧
        (∀ z, z ≠ y → t.side z = s.side z))

/-- PART RESET resets the whole part with cause REQUEST and no response (R199); a request whose kind byte names no kind
is answered REFUSED UNKNOWN and changes nothing else (R183). The commands that wait are kept: log 29. -/
def Obligations.PartResetAndUnknown : Prop :=
  ∀ (x : Side) (r : Request) (s : State), CanTake s x r →
    (r.kind = 0x0D →
      exec (.partReset x) s = .next { State.reset with notice := some .request, pending := s.pending }) ∧
    (r.kind = 0x00 ∨ 0x0D < r.kind → exec (.unknownRequest x) s = .next (answered s x (.refused .unknown)))
end

