-- ==== Sys2Proof/Laws/State.lean ====
section
/-! SUPPORT. The small lemmas of changing one side or one display link: what each field of the state is afterwards. -/

namespace Sys2Proof.Machine

open Sys2Proof

variable (s : State) (x y : Side) (f g : SideState → SideState) (h k : LinkState → LinkState)

@[simp] theorem onSide_side_same : (s.onSide x f).side x = f (s.side x) := by cases x <;> rfl

theorem onSide_side_other {x y : Side} (hxy : y ≠ x) : (s.onSide x f).side y = s.side y := by
  cases x <;> cases y <;> first | rfl | exact absurd rfl hxy

@[simp] theorem onSide_link : (s.onSide x f).link y = s.link y := by cases x <;> cases y <;> rfl

@[simp] theorem onSide_timeBase : (s.onSide x f).timeBase = s.timeBase := by cases x <;> rfl

@[simp] theorem onSide_linkA : (s.onSide x f).linkA = s.linkA := by cases x <;> rfl

@[simp] theorem onSide_linkB : (s.onSide x f).linkB = s.linkB := by cases x <;> rfl

@[simp] theorem onSide_warn : (s.onSide x f).warn = s.warn := by cases x <;> rfl

@[simp] theorem onSide_warnTimer : (s.onSide x f).warnTimer = s.warnTimer := by cases x <;> rfl

@[simp] theorem onSide_warnPulseWidth : (s.onSide x f).warnPulseWidth = s.warnPulseWidth := by cases x <;> rfl

@[simp] theorem onSide_fault : (s.onSide x f).fault = s.fault := by cases x <;> rfl

@[simp] theorem onSide_notice : (s.onSide x f).notice = s.notice := by cases x <;> rfl

@[simp] theorem onSide_resetHeld : (s.onSide x f).resetHeld = s.resetHeld := by cases x <;> rfl

@[simp] theorem onSide_pending : (s.onSide x f).pending = s.pending := by cases x <;> rfl

@[simp] theorem onLink_link_same : (s.onLink x h).link x = h (s.link x) := by cases x <;> rfl

theorem onLink_link_other {x y : Side} (hxy : y ≠ x) : (s.onLink x h).link y = s.link y := by
  cases x <;> cases y <;> first | rfl | exact absurd rfl hxy

@[simp] theorem onLink_side : (s.onLink x h).side y = s.side y := by cases x <;> cases y <;> rfl

@[simp] theorem onLink_sideA : (s.onLink x h).sideA = s.sideA := by cases x <;> rfl

@[simp] theorem onLink_sideB : (s.onLink x h).sideB = s.sideB := by cases x <;> rfl

@[simp] theorem onLink_timeBase : (s.onLink x h).timeBase = s.timeBase := by cases x <;> rfl

@[simp] theorem onLink_warn : (s.onLink x h).warn = s.warn := by cases x <;> rfl

@[simp] theorem onLink_warnTimer : (s.onLink x h).warnTimer = s.warnTimer := by cases x <;> rfl

@[simp] theorem onLink_warnPulseWidth : (s.onLink x h).warnPulseWidth = s.warnPulseWidth := by cases x <;> rfl

@[simp] theorem onLink_fault : (s.onLink x h).fault = s.fault := by cases x <;> rfl

@[simp] theorem onLink_notice : (s.onLink x h).notice = s.notice := by cases x <;> rfl

@[simp] theorem onLink_resetHeld : (s.onLink x h).resetHeld = s.resetHeld := by cases x <;> rfl

@[simp] theorem onLink_pending : (s.onLink x h).pending = s.pending := by cases x <;> rfl

@[simp] theorem onSide_onSide : (s.onSide x f).onSide x g = s.onSide x fun d => g (f d) := by cases x <;> rfl

@[simp] theorem onLink_onLink : (s.onLink x h).onLink x k = s.onLink x fun l => k (h l) := by cases x <;> rfl

/-- A change of a link and a change of a side commute. -/
theorem onLink_onSide : (s.onLink y h).onSide x f = (s.onSide x f).onLink y h := by cases x <;> cases y <;> rfl

/-- Changes of different sides commute. -/
theorem onSide_comm {x y : Side} (hxy : y ≠ x) : (s.onSide x f).onSide y g = (s.onSide y g).onSide x f := by
  cases x <;> cases y <;> first | rfl | exact absurd rfl hxy

/-- Changes of different links commute. -/
theorem onLink_comm {x y : Side} (hxy : y ≠ x) : (s.onLink x h).onLink y k = (s.onLink y k).onLink x h := by
  cases x <;> cases y <;> first | rfl | exact absurd rfl hxy

@[simp] theorem report_setReport_same (l : LinkState) (v : Bool) : (l.setReport x v).report x = v := by
  cases x <;> rfl

theorem report_setReport_other (l : LinkState) (v : Bool) {x y : Side} (hxy : y ≠ x) :
    (l.setReport x v).report y = l.report y := by
  cases x <;> cases y <;> first | rfl | exact absurd rfl hxy

/-- A report made pending is pending on both links (R147). -/
@[simp] theorem markReports_report : ((markReports s x).link y).report x = true := by
  cases x <;> cases y <;> rfl

@[simp] theorem markReports_side : (markReports s x).side y = s.side y := by cases x <;> cases y <;> rfl

@[simp] theorem markReports_pending : (markReports s x).pending = s.pending := by cases x <;> rfl

end Sys2Proof.Machine
end

