-- ==== Sys2Proof/Laws/Egress.lean ====
section
/-! SUPPORT. What the shared operations of the Egress Transmitter can do: each changes nothing beside the forward lane
of its link and what waits for it, and lines keep their order. -/

namespace Sys2Proof.Machine

open Sys2Proof

variable (s : State) (x : Side) (l : LinkState)

/-! ## Nothing beside the egress side of the link is changed -/

@[simp] theorem nextFrameCell_beside : l.nextFrameCell.besideEgress = l.besideEgress := by
  unfold LinkState.nextFrameCell
  repeat' split
  all_goals rfl

theorem sendResponse_beside {l l1 : LinkState} (h : l.sendResponse = some l1) : l1.besideEgress = l.besideEgress := by
  unfold LinkState.sendResponse at h
  split at h
  · rw [← Option.some.inj h]; rfl
  · cases h

theorem arbiter_beside {l l1 : LinkState} (h : arbiter s l = some l1) : l1.besideEgress = l.besideEgress := by
  unfold arbiter at h
  split at h
  · rw [← Option.some.inj h]; rfl
  · split at h
    · rw [← Option.some.inj h]; rfl
    · exact sendResponse_beside h

@[simp] theorem chooseCell_beside : (chooseCell s l).besideEgress = l.besideEgress := by
  unfold chooseCell
  split
  · exact nextFrameCell_beside l
  · split
    · exact nextFrameCell_beside _
    · split
      · rename_i h
        have := arbiter_beside s h
        simpa [LinkState.besideEgress] using this
      · exact nextFrameCell_beside _

@[simp] theorem afterLine_beside : (afterLine s l).besideEgress = l.besideEgress := by
  unfold afterLine
  split
  · rename_i h
    exact arbiter_beside s h
  · exact nextFrameCell_beside l

/-- Two changes of a link that agree beside its egress side give states that agree beside it. -/
theorem onLink_beside_congr {h k : LinkState → LinkState}
    (hk : (h (s.link x)).besideEgress = (k (s.link x)).besideEgress) :
    (s.onLink x h).besideEgress x = (s.onLink x k).besideEgress x := by
  cases x <;> simpa [State.besideEgress, State.onLink, State.link] using hk

/-- A change of a link that agrees with it beside its egress side changes nothing beside it. -/
theorem onLink_beside {h : LinkState → LinkState} (hk : (h (s.link x)).besideEgress = (s.link x).besideEgress) :
    (s.onLink x h).besideEgress x = s.besideEgress x := by
  cases x <;> simpa [State.besideEgress, State.onLink, State.link] using hk

@[simp] theorem kick_beside : (kick s x).besideEgress x = s.besideEgress x := by
  unfold kick
  split
  · exact onLink_beside s x (chooseCell_beside s _)
  · rfl

@[simp] theorem handFollowEnd_beside : (handFollowEnd s x).besideEgress x = s.besideEgress x := by
  unfold handFollowEnd
  rw [kick_beside]
  exact onLink_beside s x rfl

/-- An egress frame start advances the egress frame number and changes nothing else beside the egress side (R173). -/
theorem beginEgressFrame_beside (src : Source) (w h : Nat) (colour : Rgb) :
    (beginEgressFrame s x src w h colour).besideEgress x =
      (s.onLink x fun l => { l with number := l.number + 1 }).besideEgress x := by
  unfold beginEgressFrame
  rw [kick_beside]
  exact onLink_beside_congr s x rfl

@[simp] theorem completeLine_beside : (completeLine s x).besideEgress x = s.besideEgress x :=
  onLink_beside s x (afterLine_beside s _)

@[simp] theorem completeInserted_beside : (completeInserted s x).besideEgress x = s.besideEgress x := by
  unfold completeInserted
  rw [kick_beside]
  exact onLink_beside s x rfl

@[simp] theorem completeFrameStart_beside : (completeFrameStart s x).besideEgress x = s.besideEgress x := by
  unfold completeFrameStart
  rw [kick_beside]
  exact onLink_beside s x rfl

/-! ## Delivery -/

/-- States that agree beside the egress side agree beside a delivery. -/
theorem besideDelivery_of_egress {s t : State} {x : Side} (h : t.besideEgress x = s.besideEgress x) :
    t.besideDelivery x = s.besideDelivery x := by
  unfold State.besideDelivery
  rw [h]

theorem onSide_besideEgress (f : SideState → SideState) (y : Side) :
    (s.onSide y f).besideEgress x = (s.besideEgress x).onSide y f := (onLink_onSide s y x f _).symm

@[simp] theorem setWaiting_waiting (d : SideState) (w : Option Waiting) : (d.setWaiting w).pipe.waiting = w := rfl

@[simp] theorem setWaiting_recv (d : SideState) (w : Option Waiting) : (d.setWaiting w).recv = d.recv := rfl

theorem waiting_beside (w : Option Waiting) :
    (s.onSide x (·.setWaiting w)).besideDelivery x = s.besideDelivery x := by
  cases x <;> rfl

@[simp] theorem enterBuffer_beside (line : OutLine) : (enterBuffer s x line).besideEgress x = s.besideEgress x := by
  unfold enterBuffer
  rw [kick_beside]
  exact onLink_beside s x rfl

/-- The delivery of a line changes nothing beside the egress side and the waiting line (R174). -/
@[simp] theorem deliver_beside (line : OutLine) (after : After) :
    (deliver s x line after).besideDelivery x = s.besideDelivery x := by
  unfold deliver
  split
  · exact besideDelivery_of_egress (enterBuffer_beside s x line)
  · exact waiting_beside s x _

@[simp] theorem deliverWaiting_beside (line : OutLine) :
    (deliverWaiting s x line).besideDelivery x = s.besideDelivery x := by
  unfold deliverWaiting
  rw [← waiting_beside s x none]
  exact besideDelivery_of_egress (enterBuffer_beside _ x line)

/-! ## What states that agree beside the egress side share -/

variable {s x} {t : State}

theorem besideEgress_side (h : t.besideEgress x = s.besideEgress x) (y : Side) : t.side y = s.side y := by
  have := congrArg (fun u => State.side u y) h
  simpa [State.besideEgress] using this

theorem besideEgress_pending (h : t.besideEgress x = s.besideEgress x) : t.pending = s.pending := by
  have := congrArg State.pending h
  simpa [State.besideEgress] using this

theorem besideEgress_fault (h : t.besideEgress x = s.besideEgress x) : t.fault = s.fault := by
  have := congrArg State.fault h
  simpa [State.besideEgress] using this

theorem besideEgress_resetHeld (h : t.besideEgress x = s.besideEgress x) : t.resetHeld = s.resetHeld := by
  have := congrArg State.resetHeld h
  simpa [State.besideEgress] using this

theorem besideDelivery_pending (h : t.besideDelivery x = s.besideDelivery x) : t.pending = s.pending := by
  have := congrArg State.pending h
  simpa [State.besideDelivery, State.besideEgress] using this

theorem besideDelivery_side (h : t.besideDelivery x = s.besideDelivery x) :
    (t.side x).besideWaiting = (s.side x).besideWaiting := by
  have := congrArg (fun u => State.side u x) h
  simpa [State.besideDelivery, State.besideEgress] using this

theorem besideDelivery_side_other {y : Side} (hxy : y ≠ x) (h : t.besideDelivery x = s.besideDelivery x) :
    t.side y = s.side y := by
  have := congrArg (fun u => State.side u y) h
  simpa [State.besideDelivery, State.besideEgress, onSide_side_other _ _ hxy] using this

variable (s x)

@[simp] theorem kick_side (y : Side) : (kick s x).side y = s.side y := besideEgress_side (kick_beside s x) y

@[simp] theorem kick_pending : (kick s x).pending = s.pending := besideEgress_pending (kick_beside s x)

@[simp] theorem kick_fault : (kick s x).fault = s.fault := besideEgress_fault (kick_beside s x)

/-! ## Order of lines (R174) -/

/-- A busy lane is left alone. -/
theorem kick_busy (h : (s.link x).lane ≠ .idle) : kick s x = s := by
  unfold kick
  simp [h]

/-- A line that enters the buffer while the lane is sending joins its tail, and nothing else happens (R174). -/
theorem enterBuffer_busy (line : OutLine) (h : (s.link x).lane ≠ .idle) :
    enterBuffer s x line = s.onLink x fun l => { l with buffer := l.buffer ++ [line] } :=
  kick_busy _ x (by simpa using h)

/-- A line delivered while the lane is sending joins the tail of the buffer, or waits if the buffer is full (R174). -/
theorem deliver_busy (line : OutLine) (after : After) (h : (s.link x).lane ≠ .idle) :
    deliver s x line after =
      if (s.link x).hasRoom then s.onLink x fun l => { l with buffer := l.buffer ++ [line] }
      else s.onSide x (·.setWaiting (some ⟨line, after⟩)) := by
  unfold deliver
  rw [enterBuffer_busy s x line h]

/-- A line delivered while the lane is sending and no line waits stands behind every earlier line of the side (R174). -/
theorem deliver_order (line : OutLine) (after : After) (h : (s.link x).lane ≠ .idle)
    (hw : (s.side x).pipe.waiting = none) :
    egressLines (deliver s x line after) x = egressLines s x ++ [line] := by
  rw [deliver_busy s x line after h]
  split <;> simp [egressLines, hw]

/-- A line waits after a delivery exactly when the buffer was full, if none waited before (R174). -/
@[simp] theorem waits_deliver (line : OutLine) (after : After) (hw : (s.side x).pipe.waiting = none) :
    waits (deliver s x line after) x = !(s.link x).hasRoom := by
  unfold deliver
  split <;> rename_i h
  · simp [waits, enterBuffer, h, hw]
  · simp [waits, h]

end Sys2Proof.Machine
end

