-- ==== Sys2Proof/Laws/Exposure.lean ====
section
/-! SUPPORT. What the command lane transmitter and the command logic can do (R117 to R119). -/

namespace Sys2Proof.Machine

open Sys2Proof

variable (e : Exposure)

/-- A choice changes the slot, the pass-through queue and the lane, and nothing else (R119). -/
theorem choose_frame :
    e.choose = { e with slot := e.choose.slot, passQueue := e.choose.passQueue, lane := e.choose.lane } := by
  unfold Exposure.choose
  repeat' split
  all_goals rfl

/-- A busy transmitter chooses nothing (R118). -/
theorem choose_busy (h : e.lane ≠ .idle) : e.choose = e := by
  unfold Exposure.choose
  split
  · rename_i hl
    exact absurd hl h
  all_goals rfl

/-- A choice never lengthens the pass-through queue (R126). -/
theorem choose_passQueue : e.choose.passQueue.length ≤ e.passQueue.length := by
  unfold Exposure.choose
  repeat' split
  all_goals first | exact Nat.le_refl _ | (rename_i h; simp [h])

/-- The command logic leaves E, the limits in force and the pinned counter alone (R117). -/
theorem commandLogic_frame :
    e.commandLogic =
      { e with
        tag := e.commandLogic.tag, slot := e.commandLogic.slot, last := e.commandLogic.last
        passQueue := e.commandLogic.passQueue, lane := e.commandLogic.lane } := by
  unfold Exposure.commandLogic
  split
  · split
    · rfl
    · rw [choose_frame]
  · rfl

@[simp] theorem commandLogic_index : e.commandLogic.index = e.index := by rw [commandLogic_frame]

@[simp] theorem commandLogic_limits : e.commandLogic.limits = e.limits := by rw [commandLogic_frame]

@[simp] theorem commandLogic_pinned : e.commandLogic.pinned = e.pinned := by rw [commandLogic_frame]

/-- The command logic never lengthens the pass-through queue. -/
theorem commandLogic_passQueue : e.commandLogic.passQueue.length ≤ e.passQueue.length := by
  unfold Exposure.commandLogic
  split
  · split
    · exact Nat.le_refl _
    · exact choose_passQueue _
  · exact Nat.le_refl _

end Sys2Proof.Machine
end

