-- ==== Sys2Proof/Laws/Lines.lean ====
section
/-! SUPPORT. What the handling of lines can do: a concealed, a filled and a payload line; the lines that are filled
one after another, and those that a SIDE RESTART has left (R9, R10, R15, R21, R67, R88, R174). -/

namespace Sys2Proof.Machine

open Sys2Proof

/-! ## One line -/

section
variable (d : SideState)

@[simp] theorem tap_recv (y : Nat) (px : List Rgb) : (d.tap y px).recv = d.recv := rfl

@[simp] theorem tap_pipe (y : Nat) (px : List Rgb) : (d.tap y px).pipe = d.pipe := rfl

/-- A concealed line changes only the gathering buffer of its side (R15). -/
theorem conceal_side (y : Nat) :
    (d.conceal y).1 =
      { d with
        stats :=
          { d.stats with gathering := tapLine d.pipe.inUse y d.recv.lastGood d.stats.gathering } } := rfl

/-- A payload line changes the last-good-line buffer, the signature accumulator and the gathering buffer (R9, R16). -/
theorem payload_side (y : Nat) (px : List Rgb) (crc : Half) :
    (d.payload y px crc).1 =
      { d with
        recv :=
          { d.recv with
            lastGood := correctLine d.pipe.inUse y px
            signature := d.recv.signature + crc }
        stats :=
          { d.stats with
            gathering := tapLine d.pipe.inUse y (correctLine d.pipe.inUse y px) d.stats.gathering } } := rfl

/-- A side after count lines from line y on have been filled: they are counted missing and have passed the tap, and
nothing else of the side has changed (R10). -/
def SideState.filled (y count : Nat) : SideState :=
  { d with
    recv := { d.recv with missing := d.recv.missing + count }
    stats :=
      { d.stats with gathering := filledTaps d.pipe.inUse d.recv.lastGood y count d.stats.gathering } }

@[simp] theorem filled_pipe (y count : Nat) : (d.filled y count).pipe = d.pipe := rfl

@[simp] theorem filled_zero (y : Nat) : d.filled y 0 = d := rfl

/-- The taps of lines y to y + count are that of line y and then those of the lines behind it. -/
theorem filledTaps_succ (v : FrameValues) (px : List Rgb) (y count : Nat) (g : Gathering) :
    filledTaps v px y (count + 1) g = filledTaps v px (y + 1) count (tapLine v y px g) := by
  simp [filledTaps, List.range_succ_eq_map, List.foldl_map, Nat.add_assoc, Nat.add_comm 1]

/-- Filling one line and then count further ones fills count + 1 lines. -/
@[simp] theorem filled_filled (y count : Nat) : (d.filled y 1).filled (y + 1) count = d.filled y (count + 1) := by
  simp only [SideState.filled, filledTaps_succ]
  simp [filledTaps, Nat.add_comm, Nat.add_left_comm]

/-- A filled line is counted missing and passes the tap (R10, R15). -/
theorem fillLine_side (y : Nat) : (d.fillLine y).1 = d.filled y 1 := rfl

/-- A filled line is developed from the last-good-line buffer (R15, R85). -/
theorem fillLine_line (y : Nat) : (d.fillLine y).2 = shapeLine d.pipe.inUse d.pipe.shaping y d.recv.lastGood := rfl

/-- The first of count + 1 filled lines, and those behind it. -/
theorem filledLines_succ (n count : Nat) :
    filledLines d n (count + 1) =
      shapeLine d.pipe.inUse d.pipe.shaping n d.recv.lastGood :: filledLines (d.filled n 1) (n + 1) count := by
  simp only [filledLines, List.range_succ_eq_map, List.map_cons, List.map_map]
  refine congrArg₂ List.cons rfl (List.map_congr_left fun k _ => ?_)
  simp [SideState.filled, Nat.add_assoc, Nat.add_comm 1]

end

/-! ## Lines filled one after another (R10, R17, R21, R67, R174) -/

/-- Lines filled and taken by the egress line buffer of a link whose lane is sending. -/
def State.afterFills (s : State) (x : Side) (y count : Nat) : State :=
  (s.onSide x (·.filled y count)).onLink x fun l => { l with buffer := l.buffer ++ filledLines (s.side x) y count }

theorem afterFills_zero (s : State) (x : Side) (y : Nat) : s.afterFills x y 0 = s := by
  cases x <;> simp [State.afterFills, filledLines, State.onSide, State.onLink]

/-- Lines filled in two goes are those filled in one. -/
theorem afterFills_succ (s : State) (x : Side) (y count : Nat) :
    (s.afterFills x y 1).afterFills x (y + 1) count = s.afterFills x y (count + 1) := by
  have hf := filledLines_succ (s.side x) y count
  have h0 := filledLines_succ (s.side x) y 0
  cases x <;>
    simp_all [State.afterFills, State.onSide, State.onLink, State.side, filledLines]

@[simp] theorem afterFills_link (s : State) (x : Side) (y count : Nat) :
    (s.afterFills x y count).link x =
      { s.link x with buffer := (s.link x).buffer ++ filledLines (s.side x) y count } := by
  simp [State.afterFills]

@[simp] theorem afterFills_side (s : State) (x : Side) (y count : Nat) :
    (s.afterFills x y count).side x = (s.side x).filled y count := by
  simp [State.afterFills]

section
variable {s : State} {x : Side} (after : Nat → After) (count y : Nat)

/-- With room in the buffer of a lane that is sending, the next line is filled and the lines behind it follow. -/
theorem fillLines_room (hl : (s.link x).lane ≠ .idle) (hw : (s.side x).pipe.waiting = none)
    (hr : (s.link x).hasRoom = true) :
    fillLines x after (count + 1) y s = fillLines x after count (y + 1) (s.afterFills x y 1) := by
  have hd : deliver (s.onSide x fun d => (d.fillLine y).1) x ((s.side x).fillLine y).2 (after (y + 1)) =
      s.afterFills x y 1 := by
    rw [deliver_busy _ _ _ _ (by simpa using hl)]
    simp [hr, State.afterFills, filledLines, fillLine_line, fillLine_side]
  have hn : waits (s.afterFills x y 1) x = false := by simp [waits, hw]
  simp only [fillLines, hd, hn, Bool.false_eq_true, if_false]

/-- With no room in the buffer, the next line that is filled waits, and no line behind it is developed (R174). -/
theorem fillLines_full (hw : (s.side x).pipe.waiting = none) (hr : (s.link x).hasRoom = false) :
    fillLines x after (count + 1) y s =
      s.onSide x fun d => (d.filled y 1).setWaiting
        (some ⟨shapeLine (s.side x).pipe.inUse (s.side x).pipe.shaping y (s.side x).recv.lastGood, after (y + 1)⟩) := by
  have hn := waits_deliver (s.onSide x fun d => (d.fillLine y).1) x ((s.side x).fillLine y).2 (after (y + 1))
    (by simpa [fillLine_side] using hw)
  simp only [onSide_link, hr, Bool.not_false] at hn
  simp only [fillLines, hn, if_true]
  simp [deliver, hr, fillLine_side, fillLine_line]

/-- While the lane is sending, lines that are filled all enter a buffer with room for them (R174). -/
theorem fillLines_fit : ∀ (count y : Nat) (s : State), (s.link x).lane ≠ .idle → (s.side x).pipe.waiting = none →
    count ≤ (s.link x).room → fillLines x after count y s = s.afterFills x y count
  | 0, y, s, _, _, _ => by rw [fillLines, afterFills_zero]
  | count + 1, y, s, hl, hw, hr => by
    have hroom : (s.link x).hasRoom = true := by
      simp only [LinkState.room, LinkState.hasRoom, decide_eq_true_eq] at *; omega
    rw [fillLines_room after count y hl hw hroom, fillLines_fit count (y + 1) _ (by simpa using hl) (by simpa using hw),
      afterFills_succ]
    simp only [LinkState.room, afterFills_link, List.length_append, filledLines, List.length_map, List.length_range] at *
    omega

/-- While the lane is sending and the buffer has no room for all the lines, the first one without room waits (R174). -/
theorem fillLines_stop : ∀ (count y : Nat) (s : State), (s.link x).lane ≠ .idle → (s.side x).pipe.waiting = none →
    (s.link x).room < count →
    fillLines x after count y s =
      (s.afterFills x y (s.link x).room).onSide x fun d => (d.filled (y + (s.link x).room) 1).setWaiting
        (some ⟨shapeLine (s.side x).pipe.inUse (s.side x).pipe.shaping (y + (s.link x).room) (s.side x).recv.lastGood,
          after (y + (s.link x).room + 1)⟩)
  | 0, y, s, _, _, hr => absurd hr (Nat.not_lt_zero _)
  | count + 1, y, s, hl, hw, hr => by
    by_cases hroom : (s.link x).hasRoom = true
    · have hlen : ((s.afterFills x y 1).link x).room + 1 = (s.link x).room := by
        simp only [LinkState.room, LinkState.hasRoom, decide_eq_true_eq, afterFills_link, List.length_append,
          filledLines, List.length_map, List.length_range] at *
        omega
      rw [fillLines_room after count y hl hw hroom,
        fillLines_stop count (y + 1) _ (by simpa using hl) (by simpa using hw) (by omega), ← hlen, afterFills_succ]
      simp [SideState.filled, Nat.add_assoc, Nat.add_comm 1]
    · have hroom := Bool.eq_false_iff.mpr hroom
      have h0 : (s.link x).room = 0 := by
        simp only [LinkState.room, LinkState.hasRoom, decide_eq_false_iff_not] at *; omega
      rw [fillLines_full after count y hw hroom, h0, afterFills_zero]
      rfl

/-- The filling of lines does not touch their delivery. -/
theorem filled_besideDelivery (s : State) (x : Side) (y count : Nat) :
    (s.onSide x (·.filled y count)).besideDelivery x = (s.besideDelivery x).onSide x (·.filled y count) := by
  cases x <;> rfl

/-- Lines that are filled one after another are the first of those asked for, and beside their delivery they change the
missing count and the gathering buffer and nothing else (R10, R15, R174). -/
theorem fillLines_beside : ∀ (count y : Nat) (s : State), ∃ filled ≤ count,
    (fillLines x after count y s).besideDelivery x = (s.onSide x (·.filled y filled)).besideDelivery x
  | 0, y, s => ⟨0, Nat.le_refl 0, by cases x <;> rfl⟩
  | count + 1, y, s => by
    have hd := deliver_beside (s.onSide x fun d => (d.fillLine y).1) x ((s.side x).fillLine y).2 (after (y + 1))
    rw [fillLines]
    split
    · exact ⟨1, by omega, hd⟩
    · obtain ⟨k, hk, hf⟩ := fillLines_beside count (y + 1)
        (deliver (s.onSide x fun d => (d.fillLine y).1) x ((s.side x).fillLine y).2 (after (y + 1)))
      refine ⟨k + 1, by omega, hf.trans ?_⟩
      rw [filled_besideDelivery, hd, ← filled_besideDelivery, onSide_onSide]
      cases x <;> simp [fillLine_side, State.onSide]

/-! ## A cell, or an expiry, that fills lines (R10, R17, R21, R215) -/

variable (stop : Nat) (finish : State → State)

/-- While the lane is sending and the buffer has room for all the lines, they enter it and the rest of the work is
done. -/
theorem fillThen_fit (hl : (s.link x).lane ≠ .idle) (hw : (s.side x).pipe.waiting = none)
    (hr : stop - y ≤ (s.link x).room) :
    fillThen s x after y stop finish = finish (s.afterFills x y (stop - y)) := by
  have hn : waits (s.afterFills x y (stop - y)) x = false := by simp [waits, hw]
  simp only [fillThen, fillLines_fit after _ _ _ hl hw hr, hn, Bool.false_eq_true, if_false]

/-- While the lane is sending and the buffer has no room for all the lines, the first one without room waits, and the
rest of the work is not done yet (R174). -/
theorem fillThen_stop (hl : (s.link x).lane ≠ .idle) (hw : (s.side x).pipe.waiting = none)
    (hr : (s.link x).room < stop - y) :
    fillThen s x after y stop finish =
      (s.afterFills x y (s.link x).room).onSide x fun d => (d.filled (y + (s.link x).room) 1).setWaiting
        (some ⟨shapeLine (s.side x).pipe.inUse (s.side x).pipe.shaping (y + (s.link x).room) (s.side x).recv.lastGood,
          after (y + (s.link x).room + 1)⟩) := by
  rw [fillThen, fillLines_stop after _ _ _ hl hw hr, if_pos (by simp [waits])]

end

/-! ## Abandonment (R21, R27, R88, R174) -/

/-- The end of an abandonment discards the gathering statistics, leaves RECEIVING and changes nothing else beside the
egress side (R21, R91). -/
@[simp] theorem endAbandoned_beside (s : State) (x : Side) :
    (endAbandoned s x).besideEgress x =
      (s.onSide x fun d => d.discardGathering.setRecv .waitStart).besideEgress x :=
  handFollowEnd_beside _ x

/-- The lines that a SIDE RESTART has left change the egress side and the waiting line, and nothing else (log 6). -/
theorem deliverRemainder_beside (x : Side) : ∀ (count : Nat) (r : Remainder) (s : State),
    (deliverRemainder x count r s).besideDelivery x = s.besideDelivery x
  | 0, _, _ => rfl
  | count + 1, r, s => by
    rw [deliverRemainder]
    split
    · exact deliver_beside s x r.line _
    · exact (deliverRemainder_beside x count r.advance _).trans (deliver_beside s x r.line _)

end Sys2Proof.Machine
end

