-- ==== Sys2Proof/Laws/Memory.lean ====
section
/-! SUPPORT. The laws of a bank's words: a write keeps the canonical form, reads back what it stored, and leaves every
other word alone (R44, R48). -/

namespace Sys2Proof.Machine

open Sys2Proof

/-- What the canonical form from an address on says of its first entry. -/
theorem Bank.wfFrom_cons {lo a : Nat} {w : TableWord} {rest : Bank} :
    Bank.wfFrom lo ((a, w) :: rest) = true ↔
      lo ≤ a ∧ a < Config.bankWords ∧ w ≠ .zero ∧ Bank.wfFrom (a + 1) rest = true := by
  simp [Bank.wfFrom, and_assoc]

/-- The canonical form from an address on is kept for every lower address. -/
theorem Bank.wfFrom_mono {lo lo' : Nat} (hle : lo' ≤ lo) : {b : Bank} → Bank.wfFrom lo b = true → Bank.wfFrom lo' b = true
  | [], _ => rfl
  | (_, _) :: _, hb => by
    rw [Bank.wfFrom_cons] at hb ⊢
    exact ⟨hle.trans hb.1, hb.2⟩

/-- Storing a word keeps the canonical form. -/
theorem Bank.store_wfFrom {k : Nat} {v : TableWord} (hk : k < Config.bankWords) :
    {lo : Nat} → lo ≤ k → {b : Bank} → Bank.wfFrom lo b = true → Bank.wfFrom lo (Bank.store b k v) = true
  | lo, hlo, [], _ => by
    by_cases hv : v = .zero
    · simp [Bank.store, hv, Bank.wfFrom]
    · simpa [Bank.store, hv, Bank.wfFrom_cons] using ⟨hlo, hk, rfl⟩
  | lo, hlo, (a, w) :: rest, hb => by
    have hb' := Bank.wfFrom_cons.mp hb
    unfold Bank.store
    split
    · rename_i hka
      split
      · exact hb
      · rename_i hv
        exact Bank.wfFrom_cons.mpr ⟨hlo, hk, hv, Bank.wfFrom_cons.mpr ⟨hka, hb'.2⟩⟩
    · split
      · rename_i hka
        subst hka
        split
        · exact Bank.wfFrom_mono (by omega) hb'.2.2.2
        · rename_i hv
          exact Bank.wfFrom_cons.mpr ⟨hlo, hk, hv, hb'.2.2.2⟩
      · exact Bank.wfFrom_cons.mpr
          ⟨hb'.1, hb'.2.1, hb'.2.2.1, Bank.store_wfFrom hk (by omega) hb'.2.2.2⟩

/-- Storing a word of a bank keeps the bank canonical. -/
theorem Bank.store_wf {b : Bank} {k : Nat} {v : TableWord} (hk : k < Config.bankWords) (hb : b.wf = true) :
    (b.store k v).wf = true := Bank.store_wfFrom hk (Nat.zero_le k) hb

/-- A write keeps a bank canonical. -/
theorem Bank.write_wf {b : Bank} {k : Nat} (v : Half) (hk : k < Config.bankWords) (hb : b.wf = true) :
    (b.write k v).wf = true := Bank.store_wf hk hb

/-- A struck word keeps a bank canonical. -/
theorem Bank.strike_wf {b : Bank} {k : Nat} (v : Half) (hk : k < Config.bankWords) (hb : b.wf = true) :
    (b.strike k v).wf = true := Bank.store_wf hk hb

/-- Writing words that stay within a bank keeps it canonical. -/
theorem Bank.writeMany_wf : {vs : List Half} → {b : Bank} → {k : Nat} → k + vs.length ≤ Config.bankWords →
    b.wf = true → (b.writeMany k vs).wf = true
  | [], _, _, _, hb => hb
  | v :: vs, b, k, hk, hb => by
    simp only [List.length_cons] at hk
    show ((b.write k v).writeMany (k + 1) vs).wf = true
    exact Bank.writeMany_wf (by omega) (Bank.write_wf v (by omega) hb)

/-- Below the first listed address every word is 0 with good parity. -/
theorem Bank.read_below {k : Nat} : {lo : Nat} → {b : Bank} → Bank.wfFrom lo b = true → k < lo → b.read k = .zero
  | _, [], _, _ => rfl
  | lo, (a, w) :: rest, hb, hk => by
    have hb' := Bank.wfFrom_cons.mp hb
    have ha : a ≠ k := by omega
    simpa [Bank.read, ha] using Bank.read_below hb'.2.2.2 (by omega)

/-- A word stored in a canonical bank reads back, from the bank's first address on. -/
theorem Bank.read_store_from {k : Nat} {v : TableWord} :
    {lo : Nat} → {b : Bank} → Bank.wfFrom lo b = true → (Bank.store b k v).read k = v
  | _, [], _ => by
    by_cases hv : v = .zero <;> simp [Bank.store, hv, Bank.read]
  | lo, (a, w) :: rest, hb => by
    have hb' := Bank.wfFrom_cons.mp hb
    unfold Bank.store
    split
    · rename_i hka
      split
      · rename_i hv
        rw [hv]
        have ha : a ≠ k := by omega
        simpa [Bank.read, ha] using Bank.read_below hb'.2.2.2 (by omega)
      · simp [Bank.read]
    · split
      · rename_i hka
        subst hka
        split
        · rename_i hv
          rw [hv]
          exact Bank.read_below hb'.2.2.2 (by omega)
        · simp [Bank.read]
      · rename_i hne
        simpa [Bank.read, hne] using Bank.read_store_from hb'.2.2.2

/-- A word stored in a canonical bank reads back. -/
theorem Bank.read_store_same {b : Bank} {k : Nat} {v : TableWord} (hb : b.wf = true) : (b.store k v).read k = v :=
  Bank.read_store_from hb

/-- Storing a word leaves every other word alone. -/
theorem Bank.read_store_other {k j : Nat} {v : TableWord} (hjk : j ≠ k) :
    (b : Bank) → (Bank.store b k v).read j = b.read j
  | [] => by
    by_cases hv : v = .zero <;> simp [Bank.store, hv, Bank.read, hjk.symm]
  | (a, w) :: rest => by
    unfold Bank.store
    split
    · split
      · rfl
      · simp [Bank.read, hjk.symm]
    · split
      · rename_i hka
        subst hka
        split <;> simp [Bank.read, hjk.symm]
      · simp [Bank.read, Bank.read_store_other hjk rest]

/-- A bank changed in a store keeps the other bank. -/
@[simp] theorem Store.onBank_same (t : Store) (i : BankId) (f : Bank → Bank) : (t.onBank i f).bank i = f (t.bank i) := by
  cases i <;> rfl

theorem Store.onBank_other (t : Store) (f : Bank → Bank) {i j : BankId} (hij : j ≠ i) :
    (t.onBank i f).bank j = t.bank j := by
  cases i <;> cases j <;> first | rfl | exact absurd rfl hij

@[simp] theorem Store.onBank_active (t : Store) (i : BankId) (f : Bank → Bank) : (t.onBank i f).active = t.active := by
  cases i <;> rfl

@[simp] theorem Store.onBank_op (t : Store) (i : BankId) (f : Bank → Bank) : (t.onBank i f).op = t.op := by
  cases i <;> rfl

@[simp] theorem Store.onBank_commitPending (t : Store) (i : BankId) (f : Bank → Bank) :
    (t.onBank i f).commitPending = t.commitPending := by
  cases i <;> rfl

@[simp] theorem Store.onBank_frameSize (t : Store) (i : BankId) (f : Bank → Bank) :
    (t.onBank i f).frameSize = t.frameSize := by
  cases i <;> rfl

@[simp] theorem Store.onBank_parity (t : Store) (i : BankId) (f : Bank → Bank) : (t.onBank i f).parity = t.parity := by
  cases i <;> rfl

@[simp] theorem Store.onBank_scrub (t : Store) (i : BankId) (f : Bank → Bank) : (t.onBank i f).scrub = t.scrub := by
  cases i <;> rfl

/-- The shadow bank is never the active one (R45). -/
theorem Store.shadow_ne_active (t : Store) (i : BankId) (hi : t.active = some i) : t.shadow ≠ i := by
  cases i <;> simp [Store.shadow, hi, otherBank]

end Sys2Proof.Machine
end

