-- ==== Sys2Proof/WellFormed.lean ====
section
/-! DEFINITION. Which commands can be sent at all: a delivered cell ends with its two CRC bytes (R203), and a cell of
an unknown kind has a kind byte that names none of its lane's kinds (R1, R179). -/

namespace Sys2Proof

/-- The kind bytes of a camera link's forward lane (R203). -/
def cameraKinds : List Byte := [0x01#8, 0x02#8, 0x03#8, 0x04#8]

/-- The kind bytes of a display link's return lane (R203). -/
def returnKinds : List Byte := [0x31#8, 0x32#8]

/-- A cell holds at least its two CRC bytes after the kind byte (R203). -/
def bodyWf (body : List Byte) : Bool := decide (2 ≤ body.length)

/-- Well-formed commands. -/
def Instr.wf : Instr → Bool
  | .cameraFrameStart _ body => bodyWf body
  | .cameraLine _ body => bodyWf body
  | .cameraFrameEnd _ body => bodyWf body
  | .cameraStatus _ body => bodyWf body
  | .cameraUnknownKindCell _ kind body => bodyWf body && !cameraKinds.contains kind
  | .frameTimeoutExpiry _ => true
  | .standalonePeriodExpiry _ => true
  | .standaloneFrameStart _ => true
  | .displayTimeoutExpiry _ => true
  | .warnPulseExpiry => true
  | .copyCompletion _ => true
  | .checkCompletion _ => true
  | .frameEndUpdateCompletion _ => true
  | .commandLaneTxCompletion _ => true
  | .egressLineCompletion _ => true
  | .egressFrameEndCompletion _ => true
  | .egressFrameStartCompletion _ => true
  | .insertedCellCompletion _ => true
  | .deferredLineDelivery _ => true
  | .displayStatus _ body => bodyWf body
  | .request _ body => bodyWf body
  | .displayUnknownKindCell _ kind body => bodyWf body && !returnKinds.contains kind
  | .read _ => true
  | .writeSettings _ => true
  | .tableWrite _ => true
  | .tableRead _ => true
  | .copyBank _ => true
  | .commitBank _ => true
  | .acknowledge _ => true
  | .viewRestore _ => true
  | .forceWarning _ => true
  | .warnStop _ => true
  | .cameraPass _ => true
  | .sideRestart _ => true
  | .partReset _ => true
  | .unknownRequest _ => true
  | .resetLow => true
  | .resetReleased => true
  | .parityFailure _ _ _ _ => true
  | .copyWord _ => true
  | .checkWord _ => true

end Sys2Proof
end

