-- ==== Sys2Proof/Laws/PerInstr.lean ====
section
/-! SUPPORT. What holds of every command as syntax, one lemma per constructor of Instr. -/

namespace Sys2Proof.Laws

open Sys2Proof

/-- The bytes after the kind byte of the cell a command delivers; a command that delivers no cell has none. -/
def cellBody : Instr → Option (List Byte)
  | .cameraFrameStart _ body => some body
  | .cameraLine _ body => some body
  | .cameraFrameEnd _ body => some body
  | .cameraStatus _ body => some body
  | .cameraUnknownKindCell _ _ body => some body
  | .frameTimeoutExpiry _ => none
  | .standalonePeriodExpiry _ => none
  | .standaloneFrameStart _ => none
  | .displayTimeoutExpiry _ => none
  | .warnPulseExpiry => none
  | .copyCompletion _ => none
  | .checkCompletion _ => none
  | .frameEndUpdateCompletion _ => none
  | .commandLaneTxCompletion _ => none
  | .egressLineCompletion _ => none
  | .egressFrameEndCompletion _ => none
  | .egressFrameStartCompletion _ => none
  | .insertedCellCompletion _ => none
  | .deferredLineDelivery _ => none
  | .displayStatus _ body => some body
  | .request _ body => some body
  | .displayUnknownKindCell _ _ body => some body
  | .read _ => none
  | .writeSettings _ => none
  | .tableWrite _ => none
  | .tableRead _ => none
  | .copyBank _ => none
  | .commitBank _ => none
  | .acknowledge _ => none
  | .viewRestore _ => none
  | .forceWarning _ => none
  | .warnStop _ => none
  | .cameraPass _ => none
  | .sideRestart _ => none
  | .partReset _ => none
  | .unknownRequest _ => none
  | .resetLow => none
  | .resetReleased => none
  | .parityFailure _ _ _ _ => none
  | .copyWord _ => none
  | .checkWord _ => none

/-- A well-formed command that delivers a cell delivers its two CRC bytes with it (R203). -/
def CellFramed.Statement (i : Instr) : Prop := i.wf = true → ∀ body, cellBody i = some body → 2 ≤ body.length

/-- A command that delivers no cell satisfies the statement. -/
theorem cellFramed_of_none {i : Instr} (h : cellBody i = none) : CellFramed.Statement i := by
  intro _ body hb
  rw [h] at hb
  cases hb

/-- A command whose well-formedness asks for the two CRC bytes of its cell satisfies the statement. -/
theorem cellFramed_of_body {i : Instr} {b : List Byte} (hb : cellBody i = some b) (hw : i.wf = true → bodyWf b = true) :
    CellFramed.Statement i := by
  intro h body hbody
  rw [hb] at hbody
  rw [← Option.some.inj hbody]
  exact of_decide_eq_true (hw h)

theorem CellFramed.cameraFrameStart (side : Side) (body : List Byte) : CellFramed.Statement (.cameraFrameStart side body) :=
  cellFramed_of_body rfl id

theorem CellFramed.cameraLine (side : Side) (body : List Byte) : CellFramed.Statement (.cameraLine side body) :=
  cellFramed_of_body rfl id

theorem CellFramed.cameraFrameEnd (side : Side) (body : List Byte) : CellFramed.Statement (.cameraFrameEnd side body) :=
  cellFramed_of_body rfl id

theorem CellFramed.cameraStatus (side : Side) (body : List Byte) : CellFramed.Statement (.cameraStatus side body) :=
  cellFramed_of_body rfl id

theorem CellFramed.cameraUnknownKindCell (side : Side) (kind : Byte) (body : List Byte) : CellFramed.Statement (.cameraUnknownKindCell side kind body) :=
  cellFramed_of_body rfl (fun h => (Bool.and_eq_true_iff.mp h).1)

theorem CellFramed.frameTimeoutExpiry (side : Side) : CellFramed.Statement (.frameTimeoutExpiry side) :=
  cellFramed_of_none rfl

theorem CellFramed.standalonePeriodExpiry (side : Side) : CellFramed.Statement (.standalonePeriodExpiry side) :=
  cellFramed_of_none rfl

theorem CellFramed.standaloneFrameStart (side : Side) : CellFramed.Statement (.standaloneFrameStart side) :=
  cellFramed_of_none rfl

theorem CellFramed.displayTimeoutExpiry (link : Side) : CellFramed.Statement (.displayTimeoutExpiry link) :=
  cellFramed_of_none rfl

theorem CellFramed.warnPulseExpiry : CellFramed.Statement (.warnPulseExpiry) :=
  cellFramed_of_none rfl

theorem CellFramed.copyCompletion (side : Side) : CellFramed.Statement (.copyCompletion side) :=
  cellFramed_of_none rfl

theorem CellFramed.checkCompletion (side : Side) : CellFramed.Statement (.checkCompletion side) :=
  cellFramed_of_none rfl

theorem CellFramed.frameEndUpdateCompletion (side : Side) : CellFramed.Statement (.frameEndUpdateCompletion side) :=
  cellFramed_of_none rfl

theorem CellFramed.commandLaneTxCompletion (side : Side) : CellFramed.Statement (.commandLaneTxCompletion side) :=
  cellFramed_of_none rfl

theorem CellFramed.egressLineCompletion (link : Side) : CellFramed.Statement (.egressLineCompletion link) :=
  cellFramed_of_none rfl

theorem CellFramed.egressFrameEndCompletion (link : Side) : CellFramed.Statement (.egressFrameEndCompletion link) :=
  cellFramed_of_none rfl

theorem CellFramed.egressFrameStartCompletion (link : Side) : CellFramed.Statement (.egressFrameStartCompletion link) :=
  cellFramed_of_none rfl

theorem CellFramed.insertedCellCompletion (link : Side) : CellFramed.Statement (.insertedCellCompletion link) :=
  cellFramed_of_none rfl

theorem CellFramed.deferredLineDelivery (side : Side) : CellFramed.Statement (.deferredLineDelivery side) :=
  cellFramed_of_none rfl

theorem CellFramed.displayStatus (link : Side) (body : List Byte) : CellFramed.Statement (.displayStatus link body) :=
  cellFramed_of_body rfl id

theorem CellFramed.request (link : Side) (body : List Byte) : CellFramed.Statement (.request link body) :=
  cellFramed_of_body rfl id

theorem CellFramed.displayUnknownKindCell (link : Side) (kind : Byte) (body : List Byte) : CellFramed.Statement (.displayUnknownKindCell link kind body) :=
  cellFramed_of_body rfl (fun h => (Bool.and_eq_true_iff.mp h).1)

theorem CellFramed.read (link : Side) : CellFramed.Statement (.read link) :=
  cellFramed_of_none rfl

theorem CellFramed.writeSettings (link : Side) : CellFramed.Statement (.writeSettings link) :=
  cellFramed_of_none rfl

theorem CellFramed.tableWrite (link : Side) : CellFramed.Statement (.tableWrite link) :=
  cellFramed_of_none rfl

theorem CellFramed.tableRead (link : Side) : CellFramed.Statement (.tableRead link) :=
  cellFramed_of_none rfl

theorem CellFramed.copyBank (link : Side) : CellFramed.Statement (.copyBank link) :=
  cellFramed_of_none rfl

theorem CellFramed.commitBank (link : Side) : CellFramed.Statement (.commitBank link) :=
  cellFramed_of_none rfl

theorem CellFramed.acknowledge (link : Side) : CellFramed.Statement (.acknowledge link) :=
  cellFramed_of_none rfl

theorem CellFramed.viewRestore (link : Side) : CellFramed.Statement (.viewRestore link) :=
  cellFramed_of_none rfl

theorem CellFramed.forceWarning (link : Side) : CellFramed.Statement (.forceWarning link) :=
  cellFramed_of_none rfl

theorem CellFramed.warnStop (link : Side) : CellFramed.Statement (.warnStop link) :=
  cellFramed_of_none rfl

theorem CellFramed.cameraPass (link : Side) : CellFramed.Statement (.cameraPass link) :=
  cellFramed_of_none rfl

theorem CellFramed.sideRestart (link : Side) : CellFramed.Statement (.sideRestart link) :=
  cellFramed_of_none rfl

theorem CellFramed.partReset (link : Side) : CellFramed.Statement (.partReset link) :=
  cellFramed_of_none rfl

theorem CellFramed.unknownRequest (link : Side) : CellFramed.Statement (.unknownRequest link) :=
  cellFramed_of_none rfl

theorem CellFramed.resetLow : CellFramed.Statement (.resetLow) :=
  cellFramed_of_none rfl

theorem CellFramed.resetReleased : CellFramed.Statement (.resetReleased) :=
  cellFramed_of_none rfl

theorem CellFramed.parityFailure (side : Side) (bank : BankId) (word : Fin 706) (value : Half) : CellFramed.Statement (.parityFailure side bank word value) :=
  cellFramed_of_none rfl

theorem CellFramed.copyWord (side : Side) : CellFramed.Statement (.copyWord side) :=
  cellFramed_of_none rfl

theorem CellFramed.checkWord (side : Side) : CellFramed.Statement (.checkWord side) :=
  cellFramed_of_none rfl

end Sys2Proof.Laws
end

