-- ==== Sys2Proof/Laws/Supervision.lean ====
section
/-! SUPPORT. What the shared operations of supervision and of the view guard can do: each changes nothing beside the
supervision of its side, and an evaluation leaves the groups judged and FAULT exact. -/

namespace Sys2Proof.Machine

open Sys2Proof

variable (s : State) (x : Side)

/-! ## Nothing beside supervision is changed -/

@[simp] theorem markReports_beside : (markReports s x).besideSupervision x = s.besideSupervision x := by
  cases x <;> rfl

@[simp] theorem judgeFault_beside : (judgeFault s).besideSupervision x = s.besideSupervision x := by
  cases x <;> rfl

@[simp] theorem warnPulseStart_beside : (warnPulseStart s).besideSupervision x = s.besideSupervision x := by
  unfold warnPulseStart
  split <;> cases x <;> rfl

@[simp] theorem warnPulseEnd_beside : (warnPulseEnd s).besideSupervision x = s.besideSupervision x := by
  unfold warnPulseEnd
  split <;> cases x <;> rfl

@[simp] theorem setGuard_beside (st : GuardState) (m c : Nat) :
    (setGuard s x st m c).besideSupervision x = s.besideSupervision x := by
  unfold setGuard
  dsimp only
  split <;> cases x <;> rfl

@[simp] theorem trip_beside : (trip s x).besideSupervision x = s.besideSupervision x := by
  unfold trip
  dsimp only
  split <;> (try split) <;> simp

@[simp] theorem startRestoration_beside : (startRestoration s x).besideSupervision x = s.besideSupervision x := by
  unfold startRestoration
  dsimp only
  split <;> simp

@[simp] theorem judgeRestoration_beside : (judgeRestoration s x).besideSupervision x = s.besideSupervision x := by
  unfold judgeRestoration
  dsimp only
  split <;> simp

theorem setReady_beside (v : Bool) :
    (s.onSide x (·.setReady v)).besideSupervision x = s.besideSupervision x := by
  cases x <;> rfl

@[simp] theorem judgeReady_beside : (judgeReady s x).besideSupervision x = s.besideSupervision x := by
  unfold judgeReady
  dsimp only
  split
  · rw [judgeRestoration_beside, setReady_beside]
  · exact setReady_beside s x _

@[simp] theorem judgeGroups_beside :
    (s.onSide x SideState.judgeGroups).besideSupervision x = s.besideSupervision x := by
  cases x <;> rfl

@[simp] theorem actOnGroups_beside (b : Bool) : (actOnGroups s x b).besideSupervision x = s.besideSupervision x := by
  unfold actOnGroups
  dsimp only
  split <;> simp

@[simp] theorem evaluateFrom_beside (old : Groups) :
    (evaluateFrom s x old).besideSupervision x = s.besideSupervision x := by
  unfold evaluateFrom
  dsimp only
  split <;> simp

@[simp] theorem evaluate_beside : (evaluate s x).besideSupervision x = s.besideSupervision x :=
  evaluateFrom_beside s x _

@[simp] theorem settle_beside (before : Conditions) :
    (settle s x before).besideSupervision x = s.besideSupervision x := by
  unfold settle
  split <;> simp

@[simp] theorem guardStep_beside : (guardStep s x).besideSupervision x = s.besideSupervision x := by
  unfold guardStep
  dsimp only
  split <;> (try split) <;> simp

@[simp] theorem guardFrameEnd_beside : (guardFrameEnd s x).besideSupervision x = s.besideSupervision x := by
  unfold guardFrameEnd
  dsimp only
  split <;> (try split) <;> simp

/-! ## What states that agree beside supervision share -/

variable {s x} {t : State}

theorem beside_timeBase (h : t.besideSupervision x = s.besideSupervision x) : t.timeBase = s.timeBase := by
  have := congrArg State.timeBase h
  simpa [State.besideSupervision] using this

theorem beside_pending (h : t.besideSupervision x = s.besideSupervision x) : t.pending = s.pending := by
  have := congrArg State.pending h
  simpa [State.besideSupervision] using this

theorem beside_resetHeld (h : t.besideSupervision x = s.besideSupervision x) : t.resetHeld = s.resetHeld := by
  have := congrArg State.resetHeld h
  simpa [State.besideSupervision] using this

theorem beside_side (h : t.besideSupervision x = s.besideSupervision x) :
    (t.side x).besideSupervision = (s.side x).besideSupervision := by
  have := congrArg (fun u => State.side u x) h
  cases x <;> exact this

theorem beside_side_other {y : Side} (hxy : y ≠ x) (h : t.besideSupervision x = s.besideSupervision x) :
    t.side y = s.side y := by
  have := congrArg (fun u => State.side u y) h
  cases x <;> cases y <;> first | exact this | exact absurd rfl hxy

theorem besideSupervision_cond {d e : SideState} (h : d.besideSupervision = e.besideSupervision) : d.cond = e.cond := by
  have := congrArg (fun c : SideState => c.cond) h
  exact this

/-- Everything of a side but its groups and guard. -/
theorem besideSupervision_rest {d e : SideState} (h : d.besideSupervision = e.besideSupervision) :
    e = { d with groups := e.groups, guard := e.guard } := by
  cases d; cases e
  simp only [SideState.besideSupervision, SideState.mk.injEq] at h ⊢
  simp [h]

/-! ## What an evaluation leaves -/

variable (s x)

@[simp] theorem setGuard_groups (st : GuardState) (m c : Nat) (y : Side) :
    ((setGuard s x st m c).side y).groups = (s.side y).groups := by
  unfold setGuard
  dsimp only
  split <;> cases x <;> cases y <;> rfl

@[simp] theorem setGuard_fault (st : GuardState) (m c : Nat) : (setGuard s x st m c).fault = s.fault := by
  unfold setGuard
  dsimp only
  split <;> cases x <;> rfl

@[simp] theorem setGuard_guard (st : GuardState) (m c : Nat) :
    ((setGuard s x st m c).side x).guard = ⟨st, m, c, (s.side x).guard.ready⟩ := by
  unfold setGuard
  dsimp only
  split <;> cases x <;> rfl

@[simp] theorem warnPulseStart_side (y : Side) : (warnPulseStart s).side y = s.side y := by
  unfold warnPulseStart
  split <;> cases y <;> rfl

@[simp] theorem warnPulseStart_fault : (warnPulseStart s).fault = s.fault := by
  unfold warnPulseStart
  split <;> rfl

@[simp] theorem trip_groups (y : Side) : ((trip s x).side y).groups = (s.side y).groups := by
  unfold trip
  dsimp only
  split <;> (try split) <;> simp

@[simp] theorem trip_fault : (trip s x).fault = s.fault := by
  unfold trip
  dsimp only
  split <;> (try split) <;> simp

@[simp] theorem judgeRestoration_groups (y : Side) : ((judgeRestoration s x).side y).groups = (s.side y).groups := by
  unfold judgeRestoration startRestoration
  dsimp only
  split <;> (try split) <;> simp

@[simp] theorem judgeRestoration_fault : (judgeRestoration s x).fault = s.fault := by
  unfold judgeRestoration startRestoration
  dsimp only
  split <;> (try split) <;> simp

theorem setReady_groups (v : Bool) (y : Side) : ((s.onSide x (·.setReady v)).side y).groups = (s.side y).groups := by
  cases x <;> cases y <;> rfl

@[simp] theorem judgeReady_groups (y : Side) : ((judgeReady s x).side y).groups = (s.side y).groups := by
  unfold judgeReady
  dsimp only
  split
  · rw [judgeRestoration_groups, setReady_groups]
  · exact setReady_groups s x _ y

@[simp] theorem judgeReady_fault : (judgeReady s x).fault = s.fault := by
  unfold judgeReady
  dsimp only
  split <;> simp

@[simp] theorem markReports_fault : (markReports s x).fault = s.fault := by cases x <;> rfl

/-- FAULT reads the groups of both sides and nothing else. -/
theorem faultOf_congr {s t : State} (h : ∀ y, (t.side y).groups = (s.side y).groups) : faultOf t = faultOf s := by
  have ha := h .a
  have hb := h .b
  simp only [State.side] at ha hb
  simp only [faultOf, ha, hb]

@[simp] theorem judgeFault_side (y : Side) : (judgeFault s).side y = s.side y := by cases y <;> rfl

@[simp] theorem actOnGroups_groups (b : Bool) (y : Side) :
    ((actOnGroups s x b).side y).groups = (s.side y).groups := by
  unfold actOnGroups
  dsimp only
  split <;> simp

/-- FAULT is exact once the groups have been acted on (R143). -/
theorem actOnGroups_fault (b : Bool) : (actOnGroups s x b).fault = faultOf (actOnGroups s x b) := by
  rw [faultOf_congr (actOnGroups_groups s x b)]
  unfold actOnGroups
  dsimp only
  split <;> simp [judgeFault]

/-- An evaluation judges every group of its side on the vector as it stands (R134). -/
theorem evaluateFrom_groups (old : Groups) :
    ((evaluateFrom s x old).side x).groups = (s.side x).groups.map (Group.judge (s.side x).cond.vector) := by
  unfold evaluateFrom
  dsimp only
  rw [actOnGroups_groups]
  split <;> simp [SideState.judgeGroups]

/-- An evaluation leaves the groups of the other side alone (R134). -/
theorem evaluateFrom_groups_other (old : Groups) {y : Side} (hxy : y ≠ x) :
    ((evaluateFrom s x old).side y).groups = (s.side y).groups := by
  rw [beside_side_other hxy (evaluateFrom_beside s x old)]

/-- FAULT is exact after an evaluation (R143). -/
theorem evaluateFrom_fault (old : Groups) : (evaluateFrom s x old).fault = faultOf (evaluateFrom s x old) := by
  unfold evaluateFrom
  exact actOnGroups_fault _ x _

/-- FAULT that was exact is exact once a command's changes have been settled (R143). -/
theorem settle_fault (before : Conditions) (h : s.fault = faultOf s) :
    (settle s x before).fault = faultOf (settle s x before) := by
  unfold settle
  split
  · exact h
  · exact evaluateFrom_fault s x _

end Sys2Proof.Machine
end

