-- ==== Sys2Proof/Laws/Tables.lean ====
section
/-! SUPPORT. What the readers of a bank, the copy and the check can do to a side (R50, R56, R59). -/

namespace Sys2Proof.Machine

open Sys2Proof

variable (d : SideState)

/-! ## Findings (R50) -/

/-- A reader of the active bank changes the parity record and TABLE_PARITY and nothing else (R50). -/
theorem findFailed_frame (ws : List Nat) :
    d.findFailed ws =
      { d with
        store := { d.store with parity := (d.findFailed ws).store.parity }
        cond := { d.cond with tableParity := (d.findFailed ws).cond.tableParity } } := by
  unfold SideState.findFailed
  split
  · rfl
  · split <;> rfl

/-- TABLE_PARITY after a reader: true already, or made true by a failed word of the active bank (R50, R51). -/
theorem findFailed_tableParity (ws : List Nat) :
    (d.findFailed ws).cond.tableParity =
      (d.cond.tableParity ||
        match d.store.active with
        | none => false
        | some i => ws.any fun w => ((d.store.bank i).read w).failed) := by
  unfold SideState.findFailed
  cases d.store.active with
  | none => simp
  | some i =>
    dsimp only
    split
    · rename_i hf
      have hn : (ws.any fun w => ((d.store.bank i).read w).failed) = false := by
        rw [failedWords, List.filter_eq_nil_iff] at hf
        exact List.any_eq_false.mpr hf
      simp [hn]
    · rename_i w rest hf
      have hm : w ∈ failedWords (d.store.bank i) ws := by rw [hf]; exact List.mem_cons_self
      rw [failedWords, List.mem_filter] at hm
      have ha : (ws.any fun w => ((d.store.bank i).read w).failed) = true := List.any_eq_true.mpr ⟨w, hm.1, hm.2⟩
      simp [ha]

/-- A parity record into which failed words are entered holds a first failure (R50). -/
theorem enter_first (p : ParityRecord) (i : BankId) (w : Nat) (rest : List Nat) :
    (p.enter i (w :: rest)).first.isSome = true := by
  cases h : p.first <;> simp [ParityRecord.enter, h]

/-- The failure count saturates at 255 (R50). -/
theorem enter_count (p : ParityRecord) (i : BankId) (ws : List Nat) (h : p.count ≤ 255) :
    (p.enter i ws).count ≤ 255 := by
  cases ws with
  | nil => exact h
  | cons w rest => exact Nat.min_le_left _ _

/-- TABLE_PARITY says whether the parity record holds a first failure, after a reader as before it (R51). -/
theorem findFailed_sound (ws : List Nat) (h : d.cond.tableParity = d.store.parity.first.isSome) :
    (d.findFailed ws).cond.tableParity = (d.findFailed ws).store.parity.first.isSome := by
  unfold SideState.findFailed
  split
  · exact h
  · split
    · exact h
    · exact (enter_first _ _ _ _).symm

/-! ## The copy (R56) -/

/-- The copy changes the shadow bank, its own progress, the parity record and TABLE_PARITY and nothing else (R56). -/
theorem copyNext_frame :
    d.copyNext =
      { d with
        store :=
          { d.store with
            bank0 := d.copyNext.store.bank0, bank1 := d.copyNext.store.bank1, op := d.copyNext.store.op
            parity := d.copyNext.store.parity }
        cond := { d.cond with tableParity := d.copyNext.cond.tableParity } } := by
  unfold SideState.copyNext
  split
  · split
    · split
      · unfold SideState.copyStep
        dsimp only
        rw [findFailed_frame]
        generalize (d.findFailed _).store.parity = p
        generalize (d.findFailed _).cond.tableParity = c
        cases Store.shadow { d.store with parity := p } <;> simp [Store.onBank]
      · rfl
    · rfl
  · rfl

/-- Any number of copied words likewise (R56). -/
theorem copyMany_frame (n : Nat) : ∀ d : SideState,
    SideState.copyMany n d =
      { d with
        store :=
          { d.store with
            bank0 := (SideState.copyMany n d).store.bank0, bank1 := (SideState.copyMany n d).store.bank1
            op := (SideState.copyMany n d).store.op, parity := (SideState.copyMany n d).store.parity }
        cond := { d.cond with tableParity := (SideState.copyMany n d).cond.tableParity } } := by
  induction n with
  | zero => intro d; rfl
  | succ n ih =>
    intro d
    rw [SideState.copyMany, ih, copyNext_frame]

/-! ## The check (R59) -/

/-- The check changes its own operation and nothing else (R59). -/
theorem checkNext_frame (t : Store) : t.checkNext = { t with op := t.checkNext.op } := by
  unfold Store.checkNext
  split
  · split
    · split <;> rfl
    · rfl
  · rfl

/-- Any number of words read likewise (R59). -/
theorem checkMany_frame (n : Nat) : ∀ t : Store, Store.checkMany n t = { t with op := (Store.checkMany n t).op } := by
  induction n with
  | zero => intro t; rfl
  | succ n ih =>
    intro t
    rw [Store.checkMany, ih, checkNext_frame]

/-! ## The taking of DEVELOP, SHADE and TONE (R49, R64) -/

/-- A frame start's taking changes the parity record, TABLE_PARITY, the frame size in use and the frame-dependent state,
and nothing else (R49, R64). -/
theorem takeDevelop_frame :
    d.takeDevelop =
      { d with
        store :=
          { d.store with parity := d.takeDevelop.store.parity, frameSize := d.takeDevelop.store.frameSize }
        cond := { d.cond with tableParity := d.takeDevelop.cond.tableParity }
        stats := d.takeDevelop.stats
        glare :=
          { d.glare with
            target := d.takeDevelop.glare.target, current := d.takeDevelop.glare.current
            next := d.takeDevelop.glare.next, update := d.takeDevelop.glare.update }
        pipe := { d.pipe with map := d.takeDevelop.pipe.map }
        recv :=
          { d.recv with
            lastGood := d.takeDevelop.recv.lastGood, freeze := d.takeDevelop.recv.freeze
            prevSignature := d.takeDevelop.recv.prevSignature } } := by
  obtain ⟨p, c, h⟩ : ∃ p c, d.findFailed frameWordList =
      { d with store := { d.store with parity := p }, cond := { d.cond with tableParity := c } } :=
    ⟨_, _, findFailed_frame d _⟩
  unfold SideState.takeDevelop
  rw [h]
  generalize d.developValues.width = wide
  generalize d.developValues.height = high
  unfold SideState.renewSize
  split
  · rfl
  · split <;> rfl

/-! ## The swap (R61 to R65) -/

/-- A swap changes the bank bookkeeping, TABLE_PARITY and NO_TABLES, the statistics, the maps and the update in
flight, the exposure state, and of the receiver the last-good-line buffer, the freeze counter and the previous
signature; nothing else (R62 to R65). -/
theorem swap_frame :
    d.swap =
      { d with
        store :=
          { d.store with
            active := some d.store.shadow, commitPending := false, scrub := 0, parity := d.swap.store.parity
            frameSize := d.swap.store.frameSize }
        cond := { d.cond with tableParity := d.swap.cond.tableParity, noTables := false }
        stats := d.swap.stats
        glare :=
          { d.glare with
            target := d.swap.glare.target, current := d.swap.glare.current, next := d.swap.glare.next
            update := d.swap.glare.update }
        pipe := { d.pipe with map := d.swap.pipe.map }
        exposure := d.swap.exposure
        recv :=
          { d.recv with
            lastGood := d.swap.recv.lastGood, freeze := d.swap.recv.freeze
            prevSignature := d.swap.recv.prevSignature } } := by
  obtain ⟨p, c, h⟩ : ∃ p c, d.exchangeBanks.findFailed swapWordList =
      { d.exchangeBanks with
        store := { d.exchangeBanks.store with parity := p }
        cond := { d.exchangeBanks.cond with tableParity := c } } :=
    ⟨_, _, findFailed_frame d.exchangeBanks _⟩
  unfold SideState.swap
  dsimp only
  rw [h]
  generalize d.exchangeBanks.swapValues = v
  unfold SideState.swapSize
  split <;> rfl

end Sys2Proof.Machine
end

