-- ==== Sys2Proof/Tests/Slice0.lean ====
section
/-! SUPPORT. The implementer's own tests: the refusals of WellFormed, values of the spec's tables and worked examples,
and one witness for every statement that has hypotheses. -/

namespace Sys2Proof.Tests

open Sys2Proof Sys2Proof.Machine

-- Kernel evaluations one after another: each that waits holds a thread of its own.
set_option Elab.async false

/-! ## Helpers -/

/-- The state a command leaves. -/
def after (o : Host.Outcome State Fault Refusal) : State :=
  match o with
  | .next s => s
  | .fault _ => .reset
  | .refused _ => .reset

/-- The bytes of a cell after its kind byte, closed by its CRC. -/
def cellOf (kind : Byte) (fields : List Byte) : List Byte := (closeCell (kind :: fields)).drop 1

/-- Words of a bank as a list of word numbers and values. -/
def bankOf (words : List (Nat × Nat)) : Bank := words.map fun p => (p.1, ⟨BitVec.ofNat 16 p.2, false⟩)

/-- A bank with frames of 2 by 3 pixels, a unit gain and Einit 256. -/
def smallBank : Bank :=
  bankOf [(0, 2), (1, 3), (6, 256), (7, 256), (8, 256), (9, 4000), (703, 100), (704, 400), (705, 256)]

/-- Side A with smallBank in its active bank, a standalone source, and nothing in flight. -/
def tabled : State :=
  State.reset.onSide .a fun d =>
    { d with
      store := { d.store with bank0 := smallBank, active := some .bank0, frameSize := some (2, 3) }
      cond := { d.cond with noTables := false } }

/-- Side A in a frame of 2 by 3 pixels, its FRAME START sent, the lane busy with a LINE. -/
def receiving : State :=
  (tabled.onSide .a fun d =>
    { d with
      recv := { d.recv with state := .receiving, lastGood := [⟨1, 2, 3⟩, ⟨4, 5, 6⟩] }
      pipe := { d.pipe with values := some d.developValues }
      cond := { d.cond with linkLoss := false }
      groups := { d.groups with g0 := { d.groups.g0 with nonconforming := false } }
      guard := ⟨.waiting, 64, 30, true⟩
      source := .follow, frameTimer := some 0, standaloneDue := false }).onLink .a
    fun l => { l with frames := [⟨.follow, 2, 3, Rgb.black, 0, false⟩], lane := .sending .line [0x22] }

/-- receiving with a number of lines in the egress line buffer of link A, which then has room for 4 less that number. -/
def stacked (count : Nat) : State := receiving.onLink .a fun l => { l with buffer := List.replicate count ⟨0, []⟩ }

/-- A request from link A stands at the head of its queue. -/
def asking (s : State) (r : Request) : State := s.onLink .a fun l => { l with requests := [r] }

/-- A request with the six header bytes and a payload. -/
def request (kind side id : Byte) (index : Half) (count : Byte) (payload : List Byte := []) : Request :=
  ⟨kind, side, id, index, count, payload⟩

/-- A request at the head of link A's queue can be taken. -/
theorem canTake_asking {s : State} (r : Request) (h : s.resetHeld = false) (ho : opsFrom s .a = 0)
    (hr : s.linkA.responses.length < 8) : CanTake (asking s r) .a r := ⟨h, ho, hr, rfl⟩

/-- The answer of link A after a command from a state with no responses. -/
def answer (i : Instr) (s : State) : Option ResponseSlot := (after (exec i s)).linkA.responses.head?

/-! ## WellFormed: each check refuses an ill-formed command -/

theorem test_wf_frameStart_short : (Instr.cameraFrameStart .a [0x01]).wf = false := by decide
theorem test_wf_line_short : (Instr.cameraLine .b []).wf = false := by decide
theorem test_wf_frameEnd_short : (Instr.cameraFrameEnd .a [0xD1]).wf = false := by decide
theorem test_wf_status_short : (Instr.cameraStatus .a [0x00]).wf = false := by decide
theorem test_wf_cameraUnknown_short : (Instr.cameraUnknownKindCell .a 0x09 [0x00]).wf = false := by decide
theorem test_wf_cameraUnknown_known : (Instr.cameraUnknownKindCell .a 0x04 [0, 0]).wf = false := by decide
theorem test_wf_displayStatus_short : (Instr.displayStatus .a []).wf = false := by decide
theorem test_wf_request_short : (Instr.request .b [0x06]).wf = false := by decide
theorem test_wf_displayUnknown_short : (Instr.displayUnknownKindCell .a 0x09 []).wf = false := by decide
theorem test_wf_displayUnknown_known : (Instr.displayUnknownKindCell .a 0x32 [0, 0]).wf = false := by decide
theorem test_wf_frameEnd : (Instr.cameraFrameEnd .a [0xD1, 0x93]).wf = true := by decide

/-! ## Formats (chapter 11) -/

/-- R203: the check value of the CRC over the ASCII digits 1 to 9. -/
theorem test_crc_check : crc16 [0x31, 0x32, 0x33, 0x34, 0x35, 0x36, 0x37, 0x38, 0x39] = 0x29B1#16 := by decide +kernel

/-- R203: the camera FRAME END is the bytes 03, D1, 93. -/
theorem test_frameEnd_good : cellGood 0x03 3 [0xD1, 0x93] = true := by decide +kernel

/-- R208: the report of side A that the start-up evaluation makes pending. -/
theorem test_startup_report :
    (reportCell State.reset .a).take 12 = [0x25, 0x00, 0x40, 0x01, 0x11, 0x02, 0x40, 0x28, 0x00, 0x00, 0x00, 0xFF] := by
  decide +kernel

/-- R209: the COMMIT BANK of the first worked commit. -/
theorem test_commit_request :
    requestFields (cellOf 0x32 [0x06, 0x00, 0x00, 0x46, 0x41, 0x00]) = request 0x06 0 0 0x4641 0 ∧
      requestGood (cellOf 0x32 [0x06, 0x00, 0x00, 0x46, 0x41, 0x00]) = true := by decide +kernel

/-- R207: the data word of REFUSED INVALID, table 5, index 3. -/
theorem test_invalid_response :
    (Response.bytes (.refused (.invalid 5 3))).take 8 = [0x24, 4, 7, 1, 0, 5, 0, 3] := by decide +kernel

/-- R210, R212: the first word of PART STATUS. -/
theorem test_part_status : partItem State.reset 0 = 0x5A420001#32 := by decide +kernel

/-! ## Worked examples -/

/-- The worked measurement of chapter 02: 33,335 across the wrap, then 41,666 with the overrun flag. -/
theorem test_measurement_wrap :
    (Timing.capture ⟨0, some 4294900000, 3, none, false, false⟩ 66044 4) =
      ⟨66044, some 66044, 0, some 33335, true, false⟩ := by decide +kernel

theorem test_measurement_overrun :
    (Timing.capture ⟨199378, some 66044, 3, some 33335, true, false⟩ 232711 4) =
      ⟨232711, some 232711, 0, some 41666, true, true⟩ := by decide +kernel

/-- The worked pixel of chapter 04: gain 1135 and attenuation 123. -/
theorem test_pixel_gain : interpolate 1100 1200 1150 1300 80 60 20 10 = 1135 := by decide

theorem test_pixel_attenuation :
    centreCell 100 80 15 = (0, 60) ∧ centreCell 70 60 11 = (0, 40) ∧ interpolate 0 128 64 160 80 60 60 40 = 123 := by
  decide

/-- The worked pixel of chapter 04: the stages of its three components, its luma and the fade. -/
theorem test_pixel_stages :
    stage3 300 (stage2 1135 (stage1 64 1500)) = 1866 ∧ stage3 256 (stage2 1135 (stage1 64 2000)) = 2146 ∧
      stage3 400 (stage2 1135 (stage1 64 900)) = 1448 ∧ luma ⟨1866, 2146, 1448⟩ = 1971 ∧
      stage4 1024 133 1866 = 1461 ∧ stage4 1024 133 2146 = 1606 ∧ stage4 1024 133 1448 = 1244 ∧
      stage6 16 64 173 = 146 ∧ stage6 16 64 186 = 156 ∧ stage6 16 64 151 = 129 := by decide

/-- The tone curve of the worked pixel: T[91] = 172, T[92] = 174, T[77] = 150, T[78] = 151. -/
theorem test_pixel_tone :
    let v : FrameValues := List.replicate 311 0 ++ [150, 151] ++ List.replicate 12 0 ++ [172, 174]
    stage5 v 1461 = 173 ∧ stage5 v 1244 = 151 := by decide +kernel

/-- The worked night entry of chapter 05, third and last rows of the entry, and the first of the leaving. -/
theorem test_night_steps :
    let words := [0, 0, 0, 0, 0, 300, 600, 3]
    nightStep words .day 0 280 = (.day, 1) ∧ nightStep words .day 2 310 = (.day, 0) ∧
      nightStep words .day 2 200 = (.night, 0) ∧ nightStep words .night 2 500 = (.night, 0) := by decide

/-- The worked glare case of chapter 05: targets of tiles (5, 3), (6, 3), (7, 2) and (8, 3). -/
theorem test_glare_targets :
    let words := [0, 16, 48, 8, 192, 0, 0, 0, 0, 32, 64, 96, 128, 160, 192, 192]
    let lit := List.replicate 53 none ++ [some (ownValue words 100), some (ownValue words 40)]
    tileTarget words lit 53 = 96 ∧ tileTarget words lit 54 = 48 ∧ tileTarget words lit 39 = 16 ∧
      tileTarget words lit 56 = 0 ∧ candidates words .night [100, 15] = [some 96, none] ∧
      candidates words .day [100] = [none] := by
  decide +kernel

/-- The worked glare case of chapter 05: the ramp of tile (5, 3) in updates 1 to 3. -/
theorem test_glare_ramp :
    let words := [0, 16, 48, 8, 192]
    rampStep words 0 96 = 48 ∧ rampStep words 48 96 = 96 ∧ rampStep words 96 0 = 88 ∧ rampStep words 0 16 = 16 := by decide

/-- The worked exposure case of chapter 06: mean 933 over the metered tiles, and E from 300 to 316. -/
theorem test_exposure_step :
    meteredMean [(4, 800), (8, 1000)] = some 933 ∧ stepIndex [1200, 64, 4, 16, 100, 400, 256] 300 933 = 316 ∧
      stepIndex [1200, 64, 4, 16, 100, 400, 256] 316 1150 = 316 ∧
      stepIndex [1200, 64, 4, 16, 100, 400, 256] 395 700 = 400 := by decide

/-- R50: substitutes of W, H, K, MaxStep, a shading gain and T[100]. -/
theorem test_substitutes :
    substitute 0 = 640 ∧ substitute 1 = 480 ∧ substitute 683 = 4095 ∧ substitute 702 = 1 ∧ substitute 100 = 1024 ∧
      substitute 334 = 100 := by decide

/-- The worked scrub of chapter 03: word 334 lies in the third batch and not in the second; a batch wraps (R52). -/
theorem test_scrub_batch :
    (scrubWords 256).contains 334 = true ∧ (scrubWords 128).contains 334 = false ∧
      (scrubWords 640).contains 0 = true ∧ (scrubWords 640).contains 62 = false := by decide +kernel

/-- R193 and the worked write of chapter 10. -/
theorem test_conversion :
    toRange 10000 100000 5000 = 10000 ∧ toRange 0 10000 12000 = 10000 ∧ toDivider 7 = 4 ∧ toDivider 10 = 16 ∧
      toRange 10000 100000 150000 = 100000 ∧ toTempLimit (BitVec.ofInt 32 (-41)) = -40 := by decide

/-- R47 and the worked first commit of chapter 03: a bank with only DEVELOP written is first invalid at GLARE index
1. -/
theorem test_first_invalid :
    let bank := bankOf [(0, 1280), (1, 720), (2, 1), (6, 256), (7, 256), (8, 256)]
    wordValid bank 0 = true ∧ wordValid bank 683 = true ∧ wordValid bank 684 = false ∧ wordTable 684 = 4 ∧
      wordIndex 684 = 1 := by decide +kernel

/-! ## Single commands -/

/-- R150, R201: the first standalone frame after reset is 640 by 480 of (64, 64, 64) with egress frame number 0. -/
theorem test_first_standalone :
    (after (exec (.standaloneFrameStart .a) State.reset)).linkA.frames = [⟨.standalone, 640, 480, ⟨64, 64, 64⟩, 0, false⟩] ∧
      (after (exec (.standaloneFrameStart .a) State.reset)).linkA.number = 1 := by decide +kernel

/-- R5: a FRAME START with no active bank is discarded. -/
theorem test_frameStart_noBank :
    ((after (exec (.cameraFrameStart .a (cellOf 0x01 [7, 5, 0, 2, 0xD0])) State.reset)).sideA.recv.state) = .discarding := by
  decide +kernel

/-- R7, and the bring-up of chapter 12: the first accepted frame makes G0 conform and the guard WAITING with 30. -/
theorem test_first_accepted :
    let t := after (exec (.cameraFrameStart .a (cellOf 0x01 [7, 0, 2, 0, 3])) tabled)
    t.sideA.recv.state = .receiving ∧ t.sideA.guard = ⟨.waiting, 64, 30, true⟩ ∧ t.sideA.groups.g0.flag = true ∧
      t.fault = true := by decide +kernel

/-- R10: line 2 after none fills lines 0 and 1. -/
theorem test_line_gap :
    let t := after (exec (.cameraLine .a (cellOf 0x02 ([0, 2] ++ List.replicate 9 0x11))) receiving)
    t.sideA.recv.missing = 2 ∧ t.sideA.recv.expected = 3 ∧ t.linkA.buffer.map OutLine.number = [0, 1, 2] := by
  decide +kernel

/-- R17: a FRAME END fills the three lines of the frame and counts them missing. -/
theorem test_frameEnd_fills :
    let t := after (exec (.cameraFrameEnd .a [0xD1, 0x93]) receiving)
    t.sideA.recv.missing = 3 ∧ t.sideA.recv.state = .waitStart ∧ t.sideA.guard.countdown = 29 := by decide +kernel

/-- R10, R174: with room for one line, line 2 after none leaves line 1 waiting and its own line undeveloped; once the
buffer has room again, the delivery goes on with line 2. -/
theorem test_gap_waits :
    let t := after (exec (.cameraLine .a (cellOf 0x02 ([0, 2] ++ List.replicate 9 0x11))) (stacked 3))
    let u := after (exec (.deferredLineDelivery .a) (t.onLink .a fun l => { l with buffer := [] }))
    t.sideA.recv.missing = 2 ∧ t.sideA.recv.expected = 0 ∧ t.sideA.pipe.waiting.isSome = true ∧
      u.sideA.recv.expected = 3 ∧ u.sideA.pipe.waiting = none ∧ u.linkA.buffer.map OutLine.number = [1, 2] := by
  decide +kernel

/-- R17, R20, R174: a FRAME END that fills one line into a full buffer has ended nothing; its frame ends with the
delivery of that line. -/
theorem test_frameEnd_waits :
    let s := (stacked 4).onSide .a fun d => d.expect 2
    let t := after (exec (.cameraFrameEnd .a [0xD1, 0x93]) s)
    let u := after (exec (.deferredLineDelivery .a) (t.onLink .a fun l => { l with buffer := [] }))
    t.sideA.recv.state = .receiving ∧ t.linkA.frames.map EgressFrame.ended = [false] ∧
      u.sideA.recv.state = .waitStart ∧ u.linkA.frames.map EgressFrame.ended = [true] := by decide +kernel

/-- R174, R215: an expiry that fills one line into a full buffer has not lost the link yet; it does with the delivery of
that line. -/
theorem test_expiry_waits :
    let s := { (stacked 4).onSide .a fun d => d.expect 2 with timeBase := 100000 }
    let t := after (exec (.frameTimeoutExpiry .a) s)
    let u := after (exec (.deferredLineDelivery .a) (t.onLink .a fun l => { l with buffer := [] }))
    t.sideA.cond.linkLoss = false ∧ t.sideA.source = .follow ∧ t.linkA.frames.map EgressFrame.ended = [false] ∧
      u.sideA.cond.linkLoss = true ∧ u.sideA.source = .standalone ∧ u.sideA.recv.state = .waitStart ∧
      u.linkA.frames.map EgressFrame.ended = [true] := by decide +kernel

/-- R146: WARN STOP ends a pulse. -/
theorem test_warnStop :
    (after (exec (.warnStop .a) (asking { State.reset with warn := true, warnTimer := some 0 } (request 0x0A 0 0 0 0)))).warn
      = false := by decide +kernel

/-- R148, R209: an ACKNOWLEDGE of G0 to G3 of side A with bit 4 clears the notice; side B keeps FAULT asserted. -/
theorem test_acknowledge :
    let t := after (exec (.acknowledge .a) (asking State.reset (request 0x07 0 0x1F 0 0)))
    t.notice = none ∧ t.sideA.groups.g0.flag = false ∧ t.sideB.groups.g0.flag = true ∧ t.fault = true := by decide +kernel

/-- R58: the first commit of chapter 03 is answered REFUSED CHECKSUM when the sum differs. -/
theorem test_commit_checksum :
    let t := after (exec (.commitBank .a) (asking State.reset (request 0x06 0 0 7000 0)))
    answer (.checkCompletion .a) t = some (.ready (.refused .checksum)) := by decide +kernel

/-- R125: a CAMERA PASS with an IDLE lane is sent at once. -/
theorem test_cameraPass :
    ((after (exec (.cameraPass .a) (asking State.reset (request 0x0B 0 0 0 1 [0x55])))).sideA.exposure.lane) =
      .pass (passCell [0x55]) := by decide +kernel

/-- R40, R155: FORCE WARNING on a CLEAR guard fades and starts a WARN pulse. -/
theorem test_forceWarning :
    let s := receiving.onSide .a fun d => { d with guard := ⟨.clear, 0, 0, true⟩ }
    let t := after (exec (.forceWarning .a) (asking s (request 0x09 0 1 0 0)))
    t.sideA.guard.state = .fading ∧ t.warn = true ∧ t.linkB.reportA = true := by decide +kernel

/-! ## Witnesses: every statement with hypotheses has a state and operands that meet them -/

/-- A busy state: side A in a frame, a FRAME END waiting in the queue. -/
def working : State := { receiving with pending := [.cameraFrameEnd .a [0xD1, 0x93]] }

/-- The part at rest: no standalone frame start is due. -/
def resting (now : Time) : State :=
  { (State.reset.onSide .a fun d => { d with standaloneDue := false }).onSide .b
      (fun d => { d with standaloneDue := false }) with timeBase := now }

/-- Nothing is due at 199,999 microseconds after reset; at 200,000 the display timeouts are (R39). -/
theorem witness_IdleStep :
    (resting 199999).pending = [] ∧ (resting 199999).resetHeld = false ∧ dueEvents (resting 199999) = [] ∧
      dueEvents (resting 200000) ≠ [] ∧ (after (exec .resetLow State.reset)).resetHeld = true := by decide +kernel

theorem witness_ResetPin :
    (after (exec .resetLow working)).resetHeld = true ∧ isResetPin (.warnStop .a) = false := by decide +kernel

theorem witness_ResetValues :
    CanTake (asking working (request 0x0D 0 0 0 0)) .a (request 0x0D 0 0 0 0) ∧ (request 0x0D 0 0 0 0).kind = 0x0D :=
  ⟨canTake_asking _ rfl rfl (by decide), rfl⟩

theorem witness_PinsExactKept : FaultExact working ∧ WarnTimed working ∧ ∃ t, step working = .next t :=
  ⟨by unfold FaultExact; decide +kernel, by unfold WarnTimed; decide +kernel, _, rfl⟩

theorem witness_GuardSoundKept :
    (∀ x, (working.side x).GuardReady ∧ (working.side x).GuardShape) ∧ ∃ t, step working = .next t :=
  ⟨fun x => by cases x <;> (unfold SideState.GuardReady SideState.GuardShape; decide +kernel), _, rfl⟩

theorem witness_JudgementsKept :
    (∀ x, (working.side x).GroupsJudged ∧ (working.side x).CameraJudged ∧ DisplayJudged working x) ∧
      ∃ t, step working = .next t :=
  ⟨fun x => by
    cases x <;> (unfold SideState.GroupsJudged SideState.CameraJudged DisplayJudged; decide +kernel), _, rfl⟩

theorem witness_LinkAndReceiverKept :
    (∀ x, (working.side x).LinkSound ∧ (working.side x).ReceiverSound ∧ (working.side x).CountsSound) ∧
      working.sideA.recv.state = .receiving ∧ ∃ t, step working = .next t :=
  ⟨fun x => by
    cases x <;> (unfold SideState.LinkSound SideState.ReceiverSound SideState.CountsSound; decide +kernel),
    by decide +kernel, _, rfl⟩

theorem witness_BanksKept :
    (∀ x, (working.side x).BankSound) ∧ (∀ x, (working.side x).BanksCanonical) ∧ ∃ t, step working = .next t :=
  ⟨fun x => by
    cases x <;> exact ⟨by decide +kernel, by decide +kernel, by decide +kernel, fun _ h => by cases h⟩,
    fun x => by cases x <;> (unfold SideState.BanksCanonical; decide +kernel), _, rfl⟩

theorem witness_QueuesKept :
    (∀ x, (working.link x).QueuesBounded ∧ (working.side x).PassBounded ∧ SlotsAccounted working x) ∧
      ∃ t, step working = .next t :=
  ⟨fun x => by
    cases x <;> (unfold LinkState.QueuesBounded SideState.PassBounded SlotsAccounted; decide +kernel), _, rfl⟩

theorem witness_FrameStartDamagedDiscarded :
    receiving.sideA.pipe.waiting = none ∧ cellGood 0x01 8 [0, 0] = false := by decide +kernel

/-- A good FRAME START of 2 by 3, and one of 2 by 4. -/
def startCell : List Byte := cellOf 0x01 [7, 0, 2, 0, 3]

/-- A good FRAME START of a size that is not the bank's. -/
def oddStartCell : List Byte := cellOf 0x01 [7, 0, 2, 0, 4]

theorem witness_FrameStartRejected :
    cellGood 0x01 8 oddStartCell = true ∧ State.reset.sideA.store.active = none ∧
      tabled.sideA.store.active.isSome = true ∧ tabled.sideA.store.commitPending = false ∧
      tabled.sideA.recv.state ≠ .receiving ∧ tabled.sideA.pipe.waiting = none ∧
      tabled.sideA.store.active = some .bank0 ∧ fsHeight oddStartCell ≠ ((tabled.sideA.store.bank .bank0).read 1).used 1 := by
  decide +kernel

/-- tabled with an exposure slot, a command lane, and the lane of link A as given. -/
def commanded (slot : Slot) (command : CommandLane) (lane : Lane) : State :=
  (tabled.onSide .a fun d => { d with exposure := { d.exposure with slot := slot, lane := command } }).onLink .a
    fun l => { l with lane := lane }

/-- An idle part; a slot SENT one frame start before its time-out of 4 and at it, with a busy and an idle command lane;
a lane that is sending; a frame size in use that is not the bank's; an acceptance that changes no condition. -/
theorem witness_FrameStartAccepted :
    (∀ tag index acks, tabled.sideA.exposure.slot ≠ .sent tag index acks) ∧
      cellGood 0x01 8 startCell = true ∧ tabled.sideA.store.active.isSome = true ∧
      tabled.sideA.store.commitPending = false ∧ tabled.sideA.recv.state ≠ .receiving ∧
      tabled.sideA.pipe.waiting = none ∧ tabled.resetHeld = false ∧
      tabled.sideA.store.active = some .bank0 ∧
      fsWidth startCell = ((tabled.sideA.store.bank .bank0).read 0).used 0 ∧
      fsHeight startCell = ((tabled.sideA.store.bank .bank0).read 1).used 1 ∧ tabled.sideA.settings.ackFrames = 4 ∧
      tabled.sideA.store.frameSize = some (2, 3) ∧
      (commanded (.sent 1 9 2) .idle .idle).sideA.exposure.slot = .sent 1 9 2 ∧
      (commanded (.sent 1 9 3) .idle .idle).sideA.exposure.lane = .idle ∧
      (commanded (.sent 1 9 3) (.pass []) .idle).sideA.exposure.lane ≠ .idle ∧
      (commanded .empty .idle (.sending .report [])).linkA.lane ≠ .idle ∧ tabled.linkA.lane = .idle ∧
      tabled.linkA.frames = [] ∧ tabled.linkA.waitingStarts = [] ∧
      (tabled.onSide .a fun d => { d with store := { d.store with frameSize := some (2, 4) } }).sideA.store.frameSize ≠
        some (2, 3) ∧
      (let s := receiving.onSide .a (·.setRecv .waitStart)
      (after (exec (.cameraFrameStart .a startCell) s)).sideA.cond = s.sideA.cond) :=
  ⟨(fun _ _ _ h => by cases h), by decide +kernel⟩

/-- A good LINE of a number. -/
def lineCell (k : Byte) : List Byte := cellOf 0x02 ([0, k] ++ List.replicate 9 0x11)

/-- Side A receiving, with n at a value. -/
def receivingAt (n : Nat) : State := receiving.onSide .a fun d => d.expect n

/-- Late (k = 0 < n = 1), outside (k = 3 = H), and complete (n = 3 = H). -/
theorem witness_LineDiscarded :
    (receivingAt 1).sideA.recv.state = .receiving ∧ (receivingAt 1).sideA.pipe.waiting = none ∧
      crcChecks 0x02 (lineCell 0) = true ∧ crcChecks 0x02 (lineCell 3) = true ∧
      lineLengthOk (receivingAt 1).sideA.frameWidth (lineCell 3) = true ∧
      lineNumber (lineCell 0) < (receivingAt 1).sideA.recv.expected ∧
      (receivingAt 1).sideA.frameHeight ≤ lineNumber (lineCell 3) ∧
      (receivingAt 3).sideA.frameHeight ≤ (receivingAt 3).sideA.recv.expected ∧
      tabled.sideA.recv.state ≠ .receiving := by decide +kernel

/-- The lowest and the highest line number of the frame; line 2 with n = 0 and room for 3, 2 and 1 lines; an idle
lane. -/
theorem witness_LineDeveloped :
    receiving.sideA.recv.state = .receiving ∧ receiving.sideA.pipe.waiting = none ∧ crcChecks 0x02 (lineCell 0) = true ∧
      crcChecks 0x02 (lineCell 2) = true ∧ lineLengthOk receiving.sideA.frameWidth (lineCell 2) = true ∧
      receiving.sideA.recv.expected ≤ lineNumber (lineCell 0) ∧ lineNumber (lineCell 2) < receiving.sideA.frameHeight ∧
      receiving.linkA.lane ≠ .idle ∧ lineNumber (lineCell 2) - receiving.sideA.recv.expected = 2 ∧
      (stacked 1).linkA.room = 3 ∧ (stacked 2).linkA.room = 2 ∧ (stacked 3).linkA.room = 1 ∧
      (let idle := receiving.onLink .a fun l => { l with lane := .idle }
      idle.linkA.lane = .idle ∧ idle.linkA.run = none ∧ idle.linkA.buffer = [] ∧ idle.linkA.waitingStarts = [] ∧
        idle.linkA.frames = [⟨.follow, 2, 3, Rgb.black, 0, false⟩]) := by decide +kernel

/-- A LINE of the right length whose CRC does not check, and one of the wrong length, for the last line of a frame. -/
theorem witness_LineDamaged :
    (receivingAt 2).sideA.recv.state = .receiving ∧
      (receivingAt 2).sideA.recv.expected < (receivingAt 2).sideA.frameHeight ∧
      (crcChecks 0x02 (List.replicate 13 0) && lineLengthOk (receivingAt 2).sideA.frameWidth (List.replicate 13 0)) = false ∧
      lineLengthOk (receivingAt 2).sideA.frameWidth (List.replicate 13 0) = true ∧
      (crcChecks 0x02 [1, 2] && lineLengthOk (receivingAt 2).sideA.frameWidth [1, 2]) = false ∧
      (receivingAt 2).sideA.pipe.waiting = none ∧ (stacked 3).linkA.room = 1 ∧ (stacked 4).linkA.room = 0 ∧
      (receivingAt 2).linkA.lane ≠ .idle := by decide +kernel

/-- Receiving with no update in flight and with one; discarding; waiting; a damaged cell; three lines to fill with room
for 3 and for 2; a frame whose lines have all been sent, on an idle lane; and an end that leaves the conditions as they
were. -/
theorem witness_FrameEndProcessed :
    cellGood 0x03 3 [0xD1, 0x93] = true ∧ cellGood 0x03 3 [0, 0] = false ∧ receiving.sideA.recv.state = .receiving ∧
      receiving.sideA.pipe.waiting = none ∧ receiving.sideA.glare.update = none ∧
      receiving.sideA.startUpdate.glare.update.isSome = true ∧ receiving.sideA.startUpdate.recv.state = .receiving ∧
      (receiving.sideA.setRecv .discarding).recv.state = .discarding ∧ tabled.sideA.recv.state = .waitStart ∧
      receiving.sideA.frameHeight - receiving.sideA.recv.expected = 3 ∧ (stacked 1).linkA.room = 3 ∧
      (stacked 2).linkA.room = 2 ∧ (stacked 2).linkA.lane ≠ .idle ∧ cellGood 0x01 8 startCell = true ∧
      receiving.sideA.store.active = some .bank0 ∧
      (after (exec (.cameraFrameEnd .a [0xD1, 0x93]) receiving)).sideA.cond = receiving.sideA.cond ∧
      (let f : EgressFrame := ⟨.follow, 2, 3, Rgb.black, 3, false⟩
      let s := (receivingAt 3).onLink .a fun l => { l with lane := .idle, frames := [f] }
      s.linkA.lane = .idle ∧ s.linkA.run = none ∧ s.linkA.waitingStarts = [] ∧ s.linkA.frames = [f] ∧
        f.height ≤ f.sent ∧ s.sideA.frameHeight - s.sideA.recv.expected = 0) := by decide +kernel

theorem witness_StatusCellHandled :
    receiving.resetHeld = false ∧ receiving.sideA.pipe.waiting = none ∧
      cellGood 0x04 10 (cellOf 0x04 [1, 0, 0, 0, 20, 0, 7]) = true := by decide +kernel

/-- No reference; the divider count below D; the divider count that reaches D. -/
theorem witness_CaptureTaken :
    Timing.empty.reference = none ∧ State.reset.sideA.settings.captureDivider = 4 ∧
      (⟨0, some 9, 2, none, false, false⟩ : Timing).divider + 1 < 4 ∧
      4 ≤ (⟨0, some 9, 3, none, false, false⟩ : Timing).divider + 1 := by decide +kernel

/-- The frame timeout of 100 ms, due at 100,000 microseconds and not before; three lines to fill with room for 3 and for
2; no frame in progress. -/
theorem witness_FrameTimeoutExpires :
    frameTimeoutDue { receiving with timeBase := 100000 } .a = true ∧
      frameTimeoutDue { receiving with timeBase := 99999 } .a = false ∧ receiving.resetHeld = false ∧
      receiving.sideA.pipe.waiting = none ∧ receiving.sideA.recv.state = .receiving ∧
      receiving.sideA.frameHeight - receiving.sideA.recv.expected = 3 ∧
      frameTimeoutDue { stacked 1 with timeBase := 100000 } .a = true ∧ (stacked 1).linkA.room = 3 ∧
      frameTimeoutDue { stacked 2 with timeBase := 100000 } .a = true ∧ (stacked 2).linkA.room = 2 ∧
      (stacked 2).linkA.lane ≠ .idle ∧
      (after (exec (.frameTimeoutExpiry .a) { stacked 2 with timeBase := 100000 })).sideA.pipe.waiting.isSome = true ∧
      (let s := { receiving with timeBase := 100000 }.onSide .a (·.setRecv .waitStart)
      frameTimeoutDue s .a = true ∧ s.sideA.recv.state ≠ .receiving) := by decide +kernel

/-- The standalone period of 33,333 microseconds, due then and not before. -/
theorem witness_PeriodExpires :
    let s := tabled.onSide .a fun d => { d with periodTimer := some 0 }
    s.resetHeld = false ∧ periodDue { s with timeBase := 33333 } .a = true ∧
      periodDue { s with timeBase := 33332 } .a = false := by decide +kernel

/-- tabled with a commit pending. -/
def committing : State := tabled.onSide .a fun d => { d with store := { d.store with commitPending := true } }

/-- An idle and a busy lane; with and without an active bank; a commit pending. -/
theorem witness_StandaloneFrameStarts :
    tabled.resetHeld = false ∧ tabled.sideA.standaloneDue = true ∧ tabled.sideA.source = .standalone ∧
      tabled.linkA.frames = [] ∧ tabled.sideA.store.commitPending = false ∧ tabled.linkA.lane = .idle ∧
      tabled.linkA.waitingStarts = [] ∧ tabled.sideA.store.active.isSome = true ∧
      tabled.sideA.store.active = some .bank0 ∧ tabled.sideA.store.frameSize = some (2, 3) ∧
      ((tabled.sideA.store.bank .bank0).read 0).used 0 = 2 ∧ ((tabled.sideA.store.bank .bank0).read 1).used 1 = 3 ∧
      State.reset.sideA.store.active = none ∧ committing.sideA.store.commitPending = true ∧
      committing.sideA.standaloneDue = true ∧ committing.linkA.frames = [] ∧
      (commanded .empty .idle (.sending .report [])).linkA.lane ≠ .idle ∧
      (commanded .empty .idle (.sending .report [])).linkA.frames = [] := by decide +kernel

theorem witness_DisplayRecordKept :
    cellGood 0x31 6 (cellOf 0x31 [1, 0, 25]) = true ∧ cellGood 0x31 6 [0, 0] = false ∧
      displayTimeoutDue (resting 200000) .a = true ∧ displayTimeoutDue (resting 199999) .a = false ∧
      (resting 200000).resetHeld = false := by decide +kernel

/-- A pulse of 1,000 ms, due at 1,000,000 microseconds. -/
theorem witness_WarnPulseEnds :
    let s := { State.reset with warn := true, warnTimer := some 0 }
    WarnTimed s ∧ WarnTimed State.reset ∧ warnPulseDue { s with timeBase := 1000000 } = true ∧
      warnPulseDue { s with timeBase := 999999 } = false ∧ s.resetHeld = false ∧
      CanTake (asking s (request 0x0A 0 0 0 0)) .a (request 0x0A 0 0 0 0) := by
  unfold WarnTimed CanTake; decide +kernel

/-- Group 0 is of level 3, conforms, and watches FORCED, with a CLEAR guard and with LINK_LOSS false; a standalone frame
start on a busy lane with a bank that has no failed word. -/
theorem witness_GuardMoves :
    let s := receiving.onSide .a fun d => { d with guard := ⟨.clear, 0, 0, true⟩ }
    let r := request 9 0 1 0 0
    let t := commanded .empty .idle (.sending .report [])
    CanTake (asking s r) .a r ∧ r.kind = 0x09 ∧ r.names = some .a ∧ r.id ≠ 0 ∧ s.sideA.cond.forced = false ∧
      (s.sideA.groups.nth 0).level = 3 ∧ (s.sideA.groups.nth 0).nonconforming = false ∧
      (s.sideA.groups.nth 0).mismatch { s.sideA.cond with forced := true }.vector = true ∧
      t.sideA.standaloneDue = true ∧ t.sideA.source = .standalone ∧ t.linkA.frames = [] ∧
      t.sideA.store.commitPending = false ∧ t.linkA.lane ≠ .idle ∧ t.resetHeld = false ∧
      (∀ w, w < 491 → (t.sideA.store.activeBank.read w).failed = true → t.sideA.cond.tableParity = true) := by
  unfold CanTake; decide +kernel

theorem witness_ParityFailureStrikes : tabled.resetHeld = false ∧ tabled.sideA.BanksCanonical :=
  ⟨by decide +kernel, by unfold SideState.BanksCanonical; decide +kernel⟩

/-- Side A with an operation in flight. -/
def operating (op : Operation) : State :=
  tabled.onSide .a fun d => { d with store := { d.store with op := some op } }

/-- A copy at its last word. -/
theorem witness_CopyWordTaken :
    let op : Operation := ⟨.copy, .b, 705, false, 0, none⟩
    (operating op).resetHeld = false ∧ (operating op).sideA.store.op = some op ∧ op.kind = .copy ∧ op.progress < 706 ∧
      (operating op).sideA.store.active = some .bank0 ∧ (operating op).sideA.BanksCanonical := by
  unfold SideState.BanksCanonical; decide +kernel

/-- A copy that has copied every word, and one that has copied none, with a good word 0 and failed words 1 and 705. -/
theorem witness_CopyCompletes :
    let op : Operation := ⟨.copy, .b, 706, false, 0, none⟩
    let new : Operation := { op with progress := 0 }
    (operating op).sideA.store.op = some op ∧ op.progress ≤ 706 ∧ (operating new).sideA.store.op = some new ∧
      (operating op).sideA.store.active = some .bank0 ∧ (operating op).resetHeld = false ∧
      (operating op).sideA.BanksCanonical ∧ (operating new).sideA.BanksCanonical ∧ (smallBank.read 0).failed = false ∧
      (let s := (operating new).onSide .a fun d =>
        { d with store := { d.store with bank0 := (d.store.bank0.strike 1 9).strike 705 9 } }
      s.sideA.store.op = some new ∧ s.sideA.BanksCanonical ∧ ((s.sideA.store.bank .bank0).read 1).failed = true ∧
        ((s.sideA.store.bank .bank0).read 705).failed = true) := by
  unfold SideState.BanksCanonical; decide +kernel

theorem witness_CheckWordRead :
    let op : Operation := ⟨.check 5, .a, 705, false, 0, none⟩
    (operating op).resetHeld = false ∧ (operating op).sideA.store.op = some op ∧ op.progress < 706 := by decide +kernel

/-- A check at its end: with a failure, with another sum, with an invalid word, and with none of these. -/
theorem witness_CheckCompletes :
    let failed : Operation := ⟨.check 5, .a, 706, true, 5, none⟩
    let other : Operation := ⟨.check 5, .a, 706, false, 4, none⟩
    let invalid : Operation := ⟨.check 5, .a, 706, false, 5, some (4, 1)⟩
    let sound : Operation := ⟨.check 5, .a, 706, false, 5, none⟩
    (operating failed).sideA.store.op = some failed ∧ (operating other).sideA.store.op = some other ∧
      (operating invalid).sideA.store.op = some invalid ∧ (operating sound).sideA.store.op = some sound ∧
      checkResult failed 5 = .refused .parity ∧ checkResult other 5 = .refused .checksum ∧
      checkResult invalid 5 = .refused (.invalid 4 1) ∧ checkResult sound 5 = .accepted ∧
      (operating sound).sideA.store.commitPending = false ∧ (operating sound).resetHeld = false := by decide +kernel

theorem witness_AcceptedMeansSound :
    let s := operating ⟨.check 5, .a, 0, false, 0, none⟩
    (∃ t, exec (.checkCompletion .a) s = .next t) ∧ s.resetHeld = false ∧
      s.sideA.store.op = some ⟨.check 5, .a, 0, false, 0, none⟩ ∧ s.sideA.store.commitPending = false :=
  ⟨⟨_, rfl⟩, by decide +kernel⟩

/-- A swap from smallBank to a shadow of zeros, which changes the size and finds no E, with a good Einit and a failed
one; one into smallBank with E at 50; and a commit pending at a FRAME START and at a standalone frame start. -/
theorem witness_SwapExchanges :
    let d := tabled.sideA
    let e : SideState :=
      { d with
        store := { d.store with active := some .bank1 }
        exposure := { d.exposure with index := some 50 } }
    d.store.frameSize ≠
        some (((d.store.bank d.store.shadow).read 0).used 0, ((d.store.bank d.store.shadow).read 1).used 1) ∧
      e.store.frameSize =
        some (((e.store.bank e.store.shadow).read 0).used 0, ((e.store.bank e.store.shadow).read 1).used 1) ∧
      e.exposure.index = some 50 ∧ d.exposure.index = none ∧
      ((d.store.bank d.store.shadow).read 705).failed = false ∧
      ((Bank.store [] 705 ⟨0, true⟩).read 705).failed = true ∧
      ((e.store.bank e.store.shadow).read 703).used 703 ≤ ((e.store.bank e.store.shadow).read 704).used 704 ∧
      committing.sideA.store.commitPending = true ∧ committing.sideA.pipe.waiting = none ∧
      committing.sideA.recv.state ≠ .receiving ∧ cellGood 0x01 8 startCell = true ∧ committing.resetHeld = false ∧
      committing.sideA.standaloneDue = true ∧ committing.sideA.source = .standalone ∧ committing.linkA.frames = [] := by
  decide +kernel

theorem witness_PixelsInRange :
    FrameValues.InRange [] 64 ∧ (shapeLine [] ⟨[], 0, 64⟩ 0 [Rgb.black]).pixels ≠ [] :=
  ⟨⟨fun i => by simp [FrameValues.tone, FrameValues.word], by decide, by decide, by decide, by decide⟩, by decide +kernel⟩

/-- A pixel of a frame of 32 by 24, whose tiles are 2 by 2, at a corner of a tile in its outer quarter; with no flip and
with one; m = 0 and m = 64; an EMPTY gathering buffer and one that is GATHERING, and their tile 0. -/
theorem witness_PixelStages :
    let v : FrameValues := [32, 24]
    let k : Shaping := ⟨[], 0, 64⟩
    [Rgb.black][0]? = some Rgb.black ∧ v.width / 16 = 2 ∧ v.height / 12 = 2 ∧ v.flip ≠ 1 ∧
      FrameValues.flip [32, 24, 1] = 1 ∧ k.fade = 64 ∧ ({ k with fade := 0 } : Shaping).fade = 0 ∧
      Gathering.empty.gathering = false ∧ (List.replicate 192 (⟨0, 0⟩ : Tile))[0]? = some ⟨0, 0⟩ ∧
      (⟨true, [⟨7, 1⟩]⟩ : Gathering).gathering = true ∧ (⟨true, [⟨7, 1⟩]⟩ : Gathering).tiles[0]? = some ⟨7, 1⟩ := by decide +kernel

/-- A published frame of 32 by 24 pixels whose tile 0 is clipped whole. -/
def litFrame : Published := ⟨true, 0, 32, 24, [⟨400, 4⟩, ⟨400, 0⟩]⟩

/-- An update in a night state that dims and releases. -/
def someUpdate (before : NightState) : Update :=
  { glareWords := [0, 16, 48, 8, 192, 50, 600, 3, 0, 32, 64, 96, 128, 160, 192, 192], exposeWords := [], weights := []
    zoneLimit := 96, pinnedFrames := 30, night := before, counter := 0, current := List.replicate 192 8, index := none
    pinned := 0, dropped := false, clamp := none }

/-- In NIGHT tile 0 rises and tile 30 falls; in DAY the new state is DAY. -/
theorem witness_UpdateDimsOnlyAtNight :
    let r := (someUpdate .night).result litFrame
    (someUpdate .night).current.getD 0 0 < r.target.getD 0 0 ∧
      r.target.getD 30 0 < (someUpdate .night).current.getD 30 0 ∧
      ((someUpdate .day).result litFrame).night = .day := by decide +kernel

/-- A frame of 192 dark tiles; weights of 0, and of 1 with E at 50 and a target that E is below. -/
theorem witness_UpdateValues :
    let p : Published := ⟨true, 0, 32, 24, List.replicate 192 ⟨40, 0⟩⟩
    let u := someUpdate .night
    let v : Update := { u with weights := List.replicate 192 1, index := some 50, exposeWords := [1200, 64, 4, 16, 50, 50] }
    p.tiles.length = 192 ∧ u.index = none ∧ (u.weights.getD 0 0) = 0 ∧ v.weights.getD 0 0 = 1 ∧ v.index = some 50 ∧
      (v.result p).target.getD 0 0 = 0 ∧ (v.result p).pinned = 1 := by decide +kernel

/-- The edges of the dead band of 64 around 1200, and E at a limit. -/
theorem witness_ExposureStepBounded :
    let words := [1200, 64, 4, 16, 100, 400]
    exposeWord words 0 ≤ 1136 + exposeWord words 1 ∧ 1135 + exposeWord words 1 < exposeWord words 0 ∧
      1264 ≤ exposeWord words 0 + exposeWord words 1 ∧ exposeWord words 0 + exposeWord words 1 < 1265 ∧
      exposeWord words 4 ≤ 100 ∧ 100 ≤ exposeWord words 5 := by decide +kernel

theorem witness_UpdateCompletes :
    let d := receiving.sideA.startUpdate
    receiving.resetHeld = false ∧ receiving.sideA.glare.update = none ∧
      (d.glare.update.map Update.dropped) = some false ∧ (d.dropUpdate.glare.update.map Update.dropped) = some true := by
  decide +kernel

theorem witness_CommandLaneCompletes :
    State.reset.sideA.exposure.lane = .idle ∧ ({ State.reset.sideA.exposure with lane := .pass [] }).lane ≠ .idle ∧
      State.reset.resetHeld = false := by decide +kernel

/-- E set and not yet commanded, with an idle and a busy lane; E unset; and a status cell with the tag of a SENT
slot. -/
theorem witness_CommandLogicRuns :
    let e : Exposure := { State.reset.sideA.exposure with index := some 50 }
    let body := cellOf 0x04 [1, 0, 0, 0, 20, 0, 7]
    let s := commanded (.sent 1 9 2) .idle .idle
    e.index = some 50 ∧ e.last ≠ some 50 ∧ e.slot = .empty ∧ e.lane = .idle ∧
      ({ e with lane := .pass [] } : Exposure).lane ≠ .idle ∧ State.reset.sideA.exposure.index = none ∧
      cellGood 0x04 10 body = true ∧ (statusFields body false).tag = 1 ∧ s.sideA.exposure.slot = .sent 1 9 2 ∧
      s.sideA.pipe.waiting = none ∧ s.resetHeld = false ∧ s.sideA.exposure.last = s.sideA.exposure.index ∧
      (s.onSide .a fun d => { d with exposure := { d.exposure with index := some 50 } }).sideA.exposure.last ≠
        some 50 := by decide +kernel

/-- Link A sending a cell, with its flags and its response queue as given. -/
def sending (kind : EgressKind) (a b : Bool) (responses : List ResponseSlot) : State :=
  tabled.onLink .a fun l =>
    { l with lane := .sending kind [], reportA := a, reportB := b, responses := responses }

/-- A link sending a cell, with nothing to insert, and one frame in progress whose FRAME START has been sent. -/
def inFrame (kind : EgressKind) (src : Source) (sent : Nat) (ended : Bool) : State :=
  (sending kind false false []).onLink .a fun l => { l with frames := [⟨src, 2, 3, Rgb.black, sent, ended⟩] }

/-- Both reports pending, one of side B, a ready response, and a reserved slot; a standalone frame with lines left, with
none left and cut short; a follow frame that has ended, one with a line to come, in the buffer and not yet, and one that
has sent its last line and has not ended; a frame whose FRAME START waits; no frame. -/
theorem witness_EgressLineCompletes :
    let line : OutLine := ⟨2, [Rgb.black, Rgb.black]⟩
    let buffered := (inFrame .line .follow 2 false).onLink .a fun l => { l with buffer := [line] }
    let c : FrameStartCell := ⟨1, .follow, true, 2, 3⟩
    let starting := (inFrame .line .follow 0 false).onLink .a fun l => { l with waitingStarts := [c] }
    (∀ r rest, (sending .line false false [.reserved]).linkA.responses ≠ .ready r :: rest) ∧
      (∀ r rest, (inFrame .line .standalone 2 false).linkA.responses ≠ .ready r :: rest) ∧
      (sending .line true true []).linkA.lane = .sending .line [] ∧ (sending .line true true []).linkA.reportA = true ∧
      (sending .line false true []).linkA.reportA = false ∧ (sending .line false true []).linkA.reportB = true ∧
      (sending .line false false [.ready .done]).linkA.responses = .ready .done :: [] ∧
      (sending .line true true []).resetHeld = false ∧
      (inFrame .line .standalone 2 false).linkA.frames = ⟨.standalone, 2, 3, Rgb.black, 2, false⟩ :: [] ∧
      (inFrame .line .standalone 2 false).linkA.waitingStarts.length < 1 ∧
      (inFrame .line .standalone 3 false).linkA.frames = ⟨.standalone, 2, 3, Rgb.black, 3, false⟩ :: [] ∧
      (inFrame .line .standalone 1 true).linkA.frames = ⟨.standalone, 2, 3, Rgb.black, 1, true⟩ :: [] ∧
      (inFrame .line .follow 3 true).linkA.frames = ⟨.follow, 2, 3, Rgb.black, 3, true⟩ :: [] ∧
      buffered.linkA.frames = ⟨.follow, 2, 3, Rgb.black, 2, false⟩ :: [] ∧ buffered.linkA.buffer = line :: [] ∧
      (inFrame .line .follow 2 false).linkA.buffer = [] ∧
      (inFrame .line .follow 3 false).linkA.frames = ⟨.follow, 2, 3, Rgb.black, 3, false⟩ :: [] ∧
      starting.linkA.waitingStarts = c :: [] ∧ starting.linkA.frames.length ≤ starting.linkA.waitingStarts.length ∧
      (sending .line false false []).linkA.frames = [] :=
  ⟨(fun _ _ h => by cases h), (fun _ _ h => by cases h), by decide +kernel⟩

/-- The last frame before a waiting FRAME START; no other frame and no standalone frame start due, with a report pending
and with nothing to choose; a standalone frame start that takes place now; with and without an active bank. -/
theorem witness_EgressFrameEndCompletes :
    let f : EgressFrame := ⟨.follow, 2, 3, Rgb.black, 3, true⟩
    let c : FrameStartCell := ⟨1, .follow, true, 2, 3⟩
    let s := (sending .frameEnd true false []).onLink .a fun l => { l with frames := [f, f], waitingStarts := [c] }
    let last := fun (due report : Bool) =>
      ((sending .frameEnd report false []).onLink .a fun l => { l with frames := [f] }).onSide .a
        fun d => { d with standaloneDue := due }
    s.linkA.lane = .sending .frameEnd [] ∧ s.linkA.waitingStarts = [c] ∧ s.linkA.frames.drop 1 = [f] ∧
      s.sideA.store.active = some .bank0 ∧ s.resetHeld = false ∧ State.reset.sideA.store.active = none ∧
      (last false true).linkA.waitingStarts = [] ∧ (last false true).linkA.frames.drop 1 = [] ∧
      (last false true).sideA.standaloneDue = false ∧ (last false true).linkA.reportA = true ∧
      (last false true).linkA.lane = .sending .frameEnd [] ∧
      (last false false).linkA.reportA = false ∧ (last false false).linkA.reportB = false ∧
      (last false false).linkA.responses = [] ∧
      (after (exec (.egressFrameEndCompletion .a) (last false false))).sideA.cond = (last false false).sideA.cond ∧
      (last true false).sideA.standaloneDue = true ∧ (last true false).sideA.source = .standalone := by decide +kernel

/-- The run of a link that has completed an inserted cell, open at a count, with the pending reports and responses
given. -/
def inRun (count : Nat) (a b : Bool) (responses : List ResponseSlot) : State :=
  (sending .report a b responses).onLink .a fun l => { l with run := some count }

/-- A lone standalone frame whose FRAME START has been sent, and one that has been cut short; an inserted cell with the
run closed; with the run open at 7, with each choice and with none; at 8; and at 0 with a FRAME START waiting. A follow
frame with a line in the buffer and with none, after its FRAME START, after an inserted cell and at the close of a
run. -/
theorem witness_StartAndInsertedComplete :
    let c : FrameStartCell := ⟨1, .standalone, true, 2, 3⟩
    let s := fun ended : Bool => (sending .frameStart true false []).onLink .a fun l =>
      { l with frames := [⟨.standalone, 2, 3, Rgb.black, 0, ended⟩], waitingStarts := [c] }
    let u := (inRun 0 true false []).onLink .a fun l =>
      { l with frames := [⟨.follow, 2, 3, Rgb.black, 0, false⟩], waitingStarts := [c] }
    (∀ r rest, (inRun 7 false false []).linkA.responses ≠ .ready r :: rest) ∧
      (s false).linkA.lane = .sending .frameStart [] ∧ (s false).linkA.waitingStarts = [c] ∧ (s false).linkA.run = none ∧
      (s false).linkA.frames = [⟨.standalone, 2, 3, Rgb.black, 0, false⟩] ∧
      (s true).linkA.frames = [⟨.standalone, 2, 3, Rgb.black, 0, true⟩] ∧
      (sending .response true false []).linkA.lane = .sending .response [] ∧
      (sending .response true false []).linkA.run = none ∧ (inRun 7 true false []).linkA.lane = .sending .report [] ∧
      (inRun 7 true false []).linkA.run = some 7 ∧ (inRun 7 true false []).linkA.waitingStarts = [] ∧
      (inRun 7 true false []).linkA.reportA = true ∧ (inRun 7 false true []).linkA.reportB = true ∧
      (inRun 7 false false [.ready .done]).linkA.responses = .ready .done :: [] ∧
      (inRun 8 true false []).linkA.run = some 8 ∧ u.linkA.run = some 0 ∧ u.linkA.waitingStarts = c :: [] ∧
      u.linkA.frames ≠ [] ∧ u.linkA.frames.length ≤ [c].length ∧ (s false).resetHeld = false ∧
      (let f : EgressFrame := ⟨.follow, 2, 3, Rgb.black, 0, false⟩
      let line : OutLine := ⟨0, [Rgb.black, Rgb.black]⟩
      let follow := fun (kind : EgressKind) (run : Option Nat) (buffer : List OutLine) =>
        (inFrame kind .follow 0 false).onLink .a fun l => { l with run := run, buffer := buffer }
      (follow .report none [line]).linkA.frames = f :: [] ∧ (follow .report none [line]).linkA.buffer = line :: [] ∧
        (follow .report (some 8) []).linkA.run = some 8 ∧ (follow .report (some 8) []).linkA.buffer = [] ∧
        (follow .frameStart none [line]).linkA.lane = .sending .frameStart [] ∧
        (follow .frameStart none [line]).linkA.waitingStarts.length < [f].length ∧ f.sent < f.height) :=
  ⟨(fun _ _ h => by cases h), by decide +kernel⟩

/-- Side A with a line that waits and what follows it, and 3 lines in the buffer; the lane is sending. -/
def held (after : After) : State :=
  (stacked 3).onSide .a fun d => { d with pipe := { d.pipe with waiting := some ⟨⟨0, []⟩, after⟩ } }

/-- Room for one line: a FRAME END, a LINE cell and an expiry with line 1 still to fill, and a LINE cell with none; a
SIDE RESTART that has left its last line. A line with nothing behind it on an idle lane. A buffer of 4, and no line. -/
theorem witness_WaitingLineDelivered :
    let left : Remainder := ⟨[], ⟨[], 0, 64⟩, [], 2, 3⟩
    let s := (held .handled).onLink .a fun l => { l with buffer := [], lane := .idle }
    (held .handled).linkA.buffer.length = 3 ∧ (held .handled).linkA.lane ≠ .idle ∧ (held .handled).resetHeld = false ∧
      1 < (held .handled).sideA.fillStop ⟨.frameEnd, [0xD1, 0x93]⟩ ∧
      1 < (held .handled).sideA.fillStop ⟨.line, lineCell 2⟩ ∧ 1 < (held (.expiry 1)).sideA.frameHeight ∧
      (held (.expiry 1)).sideA.pipe.waiting = some ⟨⟨0, []⟩, .expiry 1⟩ ∧ lineNumber (lineCell 2) ≤ 2 ∧
      left.next < left.stop ∧ frameTimeoutDue s .a = false ∧ s.sideA.recv.held = [] ∧ restartAtHead s .a .a = [] ∧
      restartAtHead s .a .b = [] ∧ s.linkA.lane = .idle ∧
      s.linkA.run = none ∧ s.linkA.waitingStarts = [] ∧
      s.linkA.frames = [⟨.follow, 2, 3, Rgb.black, 0, false⟩] ∧ receiving.sideA.pipe.waiting = none ∧
      4 ≤ (stacked 4).linkA.buffer.length := by decide +kernel

/-- The last line of a cell, of the fills of a FRAME END, of a FRAME START and of an expiry, and of those that a SIDE
RESTART has left. -/
theorem witness_HeldUntilHandled :
    let left : Remainder := ⟨[], ⟨[], 0, 64⟩, [], 3, 3⟩
    let line : OutLine := ⟨0, []⟩
    let due := (deliverWaiting { held (.expiry 3) with timeBase := 100000 } .a line).onSide .a fun d =>
      { d with frameTimer := some 0, recv := { d.recv with held := [], expected := d.frameHeight } }
    (held .handled).sideA.pipe.waiting.isSome = true ∧ (held .handled).linkA.buffer.length < 4 ∧
      (held .handled).resetHeld = false ∧ left.stop ≤ left.next ∧ cellGood 0x03 3 [0xD1, 0x93] = true ∧
      (held .handled).sideA.recv.state = .receiving ∧ (held .handled).sideA.frameHeight = 3 ∧
      (held (.cell 3 ⟨.frameStart, startCell⟩)).sideA.pipe.waiting =
        some ⟨line, .cell 3 ⟨.frameStart, startCell⟩⟩ ∧ cellGood 0x01 8 startCell = true ∧
      (held (.expiry 3)).sideA.pipe.waiting = some ⟨line, .expiry 3⟩ ∧ (held (.expiry 3)).sideA.frameHeight = 3 ∧
      (held (.expiry 3)).sideA.recv.state = .receiving ∧ frameTimeoutDue due .a = true := by decide +kernel

/-- A fourth request finds room and a fifth does not. -/
theorem witness_RequestQueued :
    let r := request 1 0 0 0 1
    let s := State.reset.onLink .a fun l => { l with requests := [r, r, r] }
    s.resetHeld = false ∧ requestGood (cellOf 0x32 [1, 0, 0, 0, 0, 1]) = true ∧ s.linkA.requests.length < 4 ∧
      ¬ (r :: s.linkA.requests).length < 4 ∧ requestGood (cellOf 0x32 [1, 0, 0, 0, 0]) = false := by decide +kernel

/-- A request at link A's head after reset can be taken. -/
theorem canTake_reset (r : Request) : CanTake (asking State.reset r) .a r := canTake_asking r rfl rfl (by decide)

/-- Object 9; object 7 of no side; PART STATUS of no side; TIMING RECORD items 0 to 3 of side B, and 1 to 4. -/
theorem witness_ReadAnswered :
    CanTake (asking State.reset (request 1 1 2 0 4)) .a (request 1 1 2 0 4) ∧ 8 < (request 1 0 9 0 1).id.toNat ∧
      (request 1 2 7 0 1).id.toNat < 8 ∧ (request 1 2 7 0 1).names = none ∧
      objectOf (request 1 2 8 0 1).id.toNat = some .partStatus ∧
      objectOf (request 1 1 2 0 4).id.toNat = some .timing ∧ (request 1 1 2 0 4).names = some .b ∧
      ¬ (ObjectId.timing.items < (request 1 1 2 0 4).index.toNat + (request 1 1 2 0 4).count.toNat) ∧
      ObjectId.timing.items < (request 1 1 2 1 4).index.toNat + (request 1 1 2 1 4).count.toNat := by
  unfold CanTake; decide +kernel

/-- Settings 30 to 32 of side A; settings 32 and 33, out of range; first setting 33; no side; CaptureDivider alone. -/
theorem witness_SettingsWritten :
    let r := request 2 0 30 0 3 (List.replicate 12 0)
    CanTake (asking State.reset r) .a r ∧ r.names = some .a ∧ r.id.toNat + r.count.toNat = 33 ∧
      r.payload.length = 4 * r.count.toNat ∧ 33 < (request 2 0 32 0 2 (List.replicate 8 0)).id.toNat + 2 ∧
      32 < (request 2 0 33 0 1).id.toNat ∧ (request 2 9 0 0 1).names = none ∧
      (request 2 0 3 0 1 (List.replicate 4 0)).id.toNat ≤ 3 := by
  unfold CanTake; decide +kernel

/-- DEVELOP words 11 and 12; words 12 and 13, out of range; table 6; no side; a side with a commit pending. -/
theorem witness_TableWritten :
    let r := request 3 0 0 11 2 [0, 1, 0, 2]
    CanTake (asking State.reset r) .a r ∧ r.names = some .a ∧ tableLength 0 = r.index.toNat + r.count.toNat ∧
      r.payload.length = 2 * r.count.toNat ∧ tableLength 0 < (request 3 0 0 12 2).index.toNat + 2 ∧
      5 < (request 3 0 6 0 1).id.toNat ∧ (request 3 2 0 0 1).names = none ∧
      (asking State.reset r).sideA.BanksCanonical := by
  unfold CanTake SideState.BanksCanonical; decide +kernel

/-- A read of ACTIVE and of SHADOW at the last word of EXPOSE; of ACTIVE with no active bank; table 6; no side. -/
theorem witness_TableReadAnswered :
    let r := request 4 0 5 6 1
    CanTake (asking tabled r) .a r ∧ r.names = some .a ∧ r.id.msb = false ∧ (request 4 0 0x85 6 1).id.msb = true ∧
      tableLength 5 = r.index.toNat + r.count.toNat ∧ tabled.sideA.store.active = some .bank0 ∧
      State.reset.sideA.store.active = none ∧ 5 < ((request 4 0 0x86 0 1).id.extractLsb' 0 7).toNat ∧
      (request 4 7 0 0 1).names = none := by
  unfold CanTake; decide +kernel

theorem witness_OperationsBegin :
    CanTake (asking tabled (request 5 0 0 0 0)) .a (request 5 0 0 0 0) ∧ (request 5 0 0 0 0).kind = 0x05 ∧
      CanTake (asking State.reset (request 6 0 0 7 0)) .a (request 6 0 0 7 0) ∧ (request 6 0 0 7 0).kind = 0x06 ∧
      (request 6 3 0 7 0).names = none ∧ (request 5 0 0 0 0).names = some .a := by
  unfold CanTake; decide +kernel

theorem witness_Acknowledged :
    CanTake (asking State.reset (request 7 0 0x1F 0 0)) .a (request 7 0 0x1F 0 0) ∧ (request 7 0 0x1F 0 0).kind = 0x07 :=
  ⟨canTake_reset _, rfl⟩

/-- A guard in HELD on a restore-ready side, which RestoreMode MANUAL leaves there; a guard in HELD after reset. -/
theorem witness_ViewRestored :
    let s := receiving.onSide .a fun d => { d with guard := ⟨.held, 64, 0, true⟩ }
    CanTake (asking s (request 8 0 0 0 0)) .a (request 8 0 0 0 0) ∧ (request 8 0 0 0 0).names = some .a ∧
      s.sideA.guard.state = .held ∧ s.sideA.guard.ready = true ∧ State.reset.sideA.guard.ready = false := by
  unfold CanTake; decide +kernel

/-- FORCED set on a side whose G0 conforms; FORCED off where it is off; no side. -/
theorem witness_WarningForced :
    let r := request 9 0 1 0 0
    CanTake (asking receiving r) .a r ∧ r.names = some .a ∧ receiving.sideA.cond.forced ≠ decide (r.id ≠ 0) ∧
      receiving.sideA.groups.g0.nonconforming = false ∧ receiving.sideA.groups.g0.level = 3 ∧
      receiving.sideA.cond.forced = decide ((request 9 0 0 0 0).id ≠ 0) ∧ (request 9 2 1 0 0).names = none := by
  unfold CanTake; decide +kernel

/-- A pass of 8 bytes with an empty queue and an IDLE lane; one with 3 waiting and a busy lane; one with 4; one of 9. -/
theorem witness_CameraPassQueued :
    let r := request 0x0B 0 0 0 8 (List.replicate 8 1)
    let three : Exposure := { State.reset.sideA.exposure with passQueue := [[1], [2], [3]], lane := .pass [] }
    (∀ tag index, State.reset.sideA.exposure.slot ≠ .waitingTx tag index) ∧ CanTake (asking State.reset r) .a r ∧
      r.names = some .a ∧ r.count.toNat = 8 ∧ r.payload.length = r.count.toNat ∧
      State.reset.sideA.exposure.passQueue = [] ∧ State.reset.sideA.exposure.lane = .idle ∧
      three.passQueue.length < 4 ∧
      three.lane ≠ .idle ∧ 4 ≤ ([4] :: three.passQueue).length ∧ 8 < (request 0x0B 0 0 0 9).count.toNat ∧
      (request 0x0B 5 0 0 1).names = none :=
  ⟨(fun _ _ h => by cases h), by unfold CanTake; decide +kernel⟩

/-- A restart of side A, taken on link A, while a copy taken from link B is in flight; of a frame in progress with room
for its three lines and with room for two; while a line that an earlier restart has left waits; with no active bank; of
no side; and while a cell of the side is in handling or its frame timeout is expiring. -/
theorem witness_SideRestarted :
    let s := operating ⟨.copy, .b, 3, false, 0, none⟩
    let r := request 0x0C 0 0 0 0
    let left : Remainder := ⟨[], ⟨[], 0, 64⟩, [], 2, 3⟩
    CanTake (asking s r) .a r ∧ r.names = some .a ∧ (asking s r).sideA.pipe.waiting = none ∧
      (asking s r).sideA.store.op.isSome = true ∧ (asking s r).sideA.recv.state ≠ .receiving ∧
      (request 0x0C 2 0 0 0).names = none ∧ CanTake (asking (stacked 1) r) .a r ∧
      (stacked 1).sideA.recv.state = .receiving ∧ (stacked 1).linkA.lane ≠ .idle ∧
      (stacked 1).sideA.frameHeight - (stacked 1).sideA.recv.expected ≤ (stacked 1).linkA.room ∧
      CanTake (asking (stacked 2) r) .a r ∧ (stacked 2).sideA.frameHeight = 3 ∧ (stacked 2).sideA.recv.expected = 0 ∧
      (stacked 2).linkA.room = 2 ∧
      CanTake (asking (held (.abandoned left)) r) .a r ∧
      (held (.abandoned left)).sideA.pipe.waiting = some ⟨⟨0, []⟩, .abandoned left⟩ ∧
      (asking s r).sideA.store.active = some .bank0 ∧ State.reset.sideA.store.active = none ∧
      CanTake (asking (held .handled) r) .a r ∧ (held .handled).sideA.pipe.waiting = some ⟨⟨0, []⟩, .handled⟩ ∧
      CanTake (asking (held (.expiry 1)) r) .a r ∧
      (held (.expiry 1)).sideA.pipe.waiting = some ⟨⟨0, []⟩, .expiry 1⟩ := by
  unfold CanTake; decide +kernel

theorem witness_PartResetAndUnknown :
    CanTake (asking working (request 0x0D 0 0 0 0)) .a (request 0x0D 0 0 0 0) ∧
      CanTake (asking working (request 0x0E 0 0 0 0)) .a (request 0x0E 0 0 0 0) ∧
      (request 0x00 0 0 0 0).kind = 0x00 ∧ 0x0D < (request 0x0E 0 0 0 0).kind :=
  ⟨canTake_asking _ rfl rfl (by decide), canTake_asking _ rfl rfl (by decide), rfl, by decide⟩

end Sys2Proof.Tests
end

section
/-! The reception of cells that bring no good line: a damaged FRAME START (R3), a LINE that is discarded (R8, R11, R14)
and a damaged LINE (R12, R13). -/

namespace Sys2Proof.Reception

open Sys2Proof Sys2Proof.Machine

/-- A change of a side depends only on what it makes of the side as it is. -/
theorem onSide_congr {s : State} {x : Side} {f g : SideState → SideState} (h : f (s.side x) = g (s.side x)) :
    s.onSide x f = s.onSide x g := by
  cases x
  · exact congrArg (fun d => { s with sideA := d }) h
  · exact congrArg (fun d => { s with sideB := d }) h

/-! ## A cell that arrives while no line of its side waits (R1, R174) -/

section
variable {s : State} {x : Side} {body : List Byte}

theorem arrive_of_not_waiting (c : CameraCell) (hw : (s.side x).pipe.waiting = none) :
    arrive s x c = takeCell s x c := by
  have hn : waits s x = false := by simp [waits, hw]
  rw [arrive, hn, if_neg Bool.false_ne_true]

theorem exec_cameraFrameStart_of_not_waiting (hw : (s.side x).pipe.waiting = none) :
    exec (.cameraFrameStart x body) s = if s.resetHeld then .next s else .next (takeFrameStart s x body) := by
  have harr : arrive s x ⟨.frameStart, body⟩ = takeFrameStart s x body := arrive_of_not_waiting ⟨.frameStart, body⟩ hw
  rw [← harr]
  rfl

theorem exec_cameraLine_of_not_waiting (hr : s.resetHeld = false) (hw : (s.side x).pipe.waiting = none) :
    exec (.cameraLine x body) s = .next (takeLine s x body) := by
  have hexec : exec (.cameraLine x body) s = execCameraLine x body s := rfl
  have harr : arrive s x ⟨.line, body⟩ = takeLine s x body := arrive_of_not_waiting ⟨.line, body⟩ hw
  rw [hexec, execCameraLine, hr, if_neg Bool.false_ne_true, harr]

/-! ## The cases of a LINE cell (R8, R11 to R14) -/

theorem takeLine_of_not_receiving (h : (s.side x).recv.state ≠ .receiving) : takeLine s x body = s :=
  if_pos h

/-- In RECEIVING a LINE cell is discarded and counted when the last line of the frame has been taken (R14), and when it
is undamaged and its number lies outside the lines still expected (R11). -/
theorem takeLine_discarded (h : (s.side x).recv.state = .receiving)
    (hd : (s.side x).frameHeight ≤ (s.side x).recv.expected ∨
      (crcChecks 0x02 body = true ∧ lineLengthOk (s.side x).frameWidth body = true ∧
        (lineNumber body < (s.side x).recv.expected ∨ (s.side x).frameHeight ≤ lineNumber body))) :
    takeLine s x body = s.onSide x SideState.countDiscarded := by
  rw [takeLine, if_neg (not_not_intro h)]
  by_cases hlast : (s.side x).frameHeight ≤ (s.side x).recv.expected
  · rw [if_pos hlast]
  · obtain ⟨hcrc, hlen, hnum⟩ := hd.resolve_left hlast
    rw [if_neg hlast, if_pos (by rw [hcrc, hlen]; rfl), if_pos hnum]

theorem takeLine_damaged (h : (s.side x).recv.state = .receiving)
    (hn : (s.side x).recv.expected < (s.side x).frameHeight)
    (hbad : (crcChecks 0x02 body && lineLengthOk (s.side x).frameWidth body) = false) :
    takeLine s x body = handLast s x ((s.side x).damagedLine body) := by
  rw [takeLine, if_neg (not_not_intro h), if_neg (Nat.not_le.mpr hn), hbad, if_neg Bool.false_ne_true]

end

/-! ## The line that a damaged LINE cell stands for (R12, R13) -/

section
variable (d : SideState) (body : List Byte)

/-- Line n is counted damaged either way; under ACCEPT with the right length it is developed from the payload (R13),
else concealed (R12). -/
theorem damagedLine_recv :
    (d.damagedLine body).1.recv =
      if d.settings.lineCrcPolicy = .accept ∧ lineLengthOk d.frameWidth body = true then
        { d.recv with
          expected := d.recv.expected + 1
          damaged := d.recv.damaged + 1
          signature := d.recv.signature + cellCrc body
          lastGood := correctLine d.pipe.inUse d.recv.expected (linePixels body) }
      else { d.recv with expected := d.recv.expected + 1, damaged := d.recv.damaged + 1 } := by
  unfold SideState.damagedLine
  split <;> rfl

/-- Developed or concealed, the line handed on has the last-good-line buffer that it leaves as its stage-3 values. -/
theorem damagedLine_line :
    (d.damagedLine body).2 =
      shapeLine d.pipe.inUse d.pipe.shaping d.recv.expected (d.damagedLine body).1.recv.lastGood := by
  unfold SideState.damagedLine
  split <;> rfl

/-- The same stage-3 values pass the tap (R76). -/
theorem damagedLine_gathering :
    (d.damagedLine body).1.stats.gathering =
      tapLine d.pipe.inUse d.recv.expected (d.damagedLine body).1.recv.lastGood d.stats.gathering := by
  unfold SideState.damagedLine
  split <;> rfl

theorem damagedLine_frame :
    (d.damagedLine body).1 =
      { d with
        recv := (d.damagedLine body).1.recv
        stats := { d.stats with gathering := (d.damagedLine body).1.stats.gathering } } := by
  unfold SideState.damagedLine
  split <;> rfl

theorem damagedLine_pipe : (d.damagedLine body).1.pipe = d.pipe := by rw [damagedLine_frame]

end

/-! ## The last line of a cell handed on (R174) -/

section
variable (s : State) (x : Side) (own : SideState × OutLine)

theorem hasRoom_iff (l : LinkState) : l.hasRoom = true ↔ 0 < l.room := by
  simp only [LinkState.hasRoom, LinkState.room, decide_eq_true_eq]
  omega

theorem handLast_beside : (handLast s x own).besideDelivery x = (s.onSide x fun _ => own.1).besideDelivery x :=
  deliver_beside _ x own.2 .handled

theorem handLast_besideWaiting : ((handLast s x own).side x).besideWaiting = own.1.besideWaiting := by
  rw [besideDelivery_side (handLast_beside s x own), onSide_side_same]

theorem handLast_recv : ((handLast s x own).side x).recv = own.1.recv :=
  (congrArg SideState.recv (handLast_besideWaiting s x own) :)

theorem handLast_stats : ((handLast s x own).side x).stats = own.1.stats :=
  (congrArg SideState.stats (handLast_besideWaiting s x own) :)

variable {s x own}

theorem handLast_of_room (hr : 0 < (s.link x).room) :
    handLast s x own = enterBuffer (s.onSide x fun _ => own.1) x own.2 :=
  if_pos (by rw [onSide_link, hasRoom_iff]; exact hr)

/-- With room in the egress line buffer no line waits that did not wait before. -/
theorem handLast_waiting_of_room (hr : 0 < (s.link x).room) :
    ((handLast s x own).side x).pipe.waiting = own.1.pipe.waiting := by
  rw [handLast_of_room hr, besideEgress_side (enterBuffer_beside _ x own.2), onSide_side_same]

/-- With room, and a lane that is sending, the line joins the tail of the buffer. -/
theorem handLast_link_of_busy (hr : 0 < (s.link x).room) (hl : (s.link x).lane ≠ .idle) :
    (handLast s x own).link x = { s.link x with buffer := (s.link x).buffer ++ [own.2] } := by
  rw [handLast_of_room hr, enterBuffer_busy _ x own.2 (by rwa [onSide_link]), onLink_link_same, onSide_link]

theorem handLast_of_full (hr : (s.link x).room = 0) :
    handLast s x own = s.onSide x fun _ => own.1.setWaiting (some ⟨own.2, .handled⟩) := by
  have hfull : ¬ ((s.onSide x fun _ => own.1).link x).hasRoom = true := by
    rw [onSide_link, hasRoom_iff]
    omega
  rw [handLast, deliver, if_neg hfull, onSide_onSide]

end

/-! ## The obligations -/

/-- Settles O13: R3 discards the damaged cell before the receiver state is looked at. -/
theorem frameStartDamagedDiscarded : Obligations.FrameStartDamagedDiscarded := by
  intro x body s hw hbad
  have hkept : takeFrameStart s x body = s := by rw [takeFrameStart, hbad, if_neg Bool.false_ne_true]
  rw [exec_cameraFrameStart_of_not_waiting hw, hkept, ite_self]

/-- Settles O16, by the cases of a LINE cell that discard it. -/
theorem lineDiscarded : Obligations.LineDiscarded := by
  intro x body s hr hw
  rw [exec_cameraLine_of_not_waiting hr hw]
  refine ⟨fun hidle => ?_, fun hrecv hd => ?_⟩
  · rw [takeLine_of_not_receiving hidle]
  · rw [takeLine_discarded hrecv hd]
    rfl

/-- Settles O18: the receiver, the tap and the frame are those of the line that the cell stands for; where that line
goes is decided by the room in the egress line buffer. -/
theorem lineDamaged : Obligations.LineDamaged := by
  intro x body s hr hw hrecv hn hbad
  refine ⟨handLast s x ((s.side x).damagedLine body), ?_, ?_, ⟨fun hroom => ⟨?_, fun hl => ?_⟩, fun hfull => ?_⟩, ?_, ?_⟩
  · rw [exec_cameraLine_of_not_waiting hr hw, takeLine_damaged hrecv hn hbad]
  · rw [handLast_recv, damagedLine_recv]
  · rw [handLast_waiting_of_room hroom, damagedLine_pipe, hw]
  · rw [handLast_link_of_busy hroom hl, handLast_recv, damagedLine_line]
    exact ⟨rfl, rfl⟩
  · rw [handLast_recv, ← damagedLine_line, handLast_of_full hfull, onSide_side_same, setWaiting_waiting, onSide_link]
    exact ⟨rfl, rfl⟩
  · rw [handLast_stats, handLast_recv, damagedLine_gathering]
  · rw [handLast_beside, handLast_recv, handLast_stats]
    exact congrArg (State.besideDelivery · x) (onSide_congr (damagedLine_frame (s.side x) body))

end Sys2Proof.Reception
end

section
/-! A request taken from the head of its queue (R183), what a reset leaves (R199, R200), and the word that a check in
flight reads (R59). -/

namespace Sys2Proof.TableBanks

open Sys2Proof Sys2Proof.Machine

/-! ## The taking of a request (R183, R184) -/

section
variable {s : State} {x : Side} {r : Request}

theorem stalled_eq_false_iff : stalled s x = false ↔ opsFrom s x = 0 := by
  rw [stalled, opsFrom, Bool.or_eq_false_iff, Nat.add_eq_zero_iff, Bool.toNat_eq_zero, Bool.toNat_eq_zero]

theorem headRequest_of_canTake (h : CanTake s x r) : headRequest s x = some r := by
  obtain ⟨hreleased, hops, hroom, hhead⟩ := h
  have hfree : decide (Config.responseSlots ≤ (s.link x).responses.length) = false :=
    decide_eq_false (Nat.not_le.mpr hroom)
  rw [headRequest, hreleased, stalled_eq_false_iff.mpr hops, hfree, Bool.or_self, Bool.or_self,
    if_neg Bool.false_ne_true, hhead]

/-- A request that can be taken is executed by the command of its kind, once it has left the queue. -/
theorem taken_of_canTake {k : RequestKind} (h : CanTake s x r) (hk : r.requestKind = k)
    (run : State → Side → Request → State) : taken s x k run = .next (run (takeRequest s x) x r) := by
  have hhead : headOf s x k = some r := by
    rw [headOf, headRequest_of_canTake h]
    exact Option.filter_some_pos (decide_eq_true hk)
  rw [taken, hhead]

theorem requestKind_partReset (h : r.kind = 0x0D) : r.requestKind = .partReset := by
  rw [Request.requestKind, h]
  rfl

end

/-! ## The part after a reset (R199, R200) -/

/-- The part at its reset values, but for what tells a PART RESET from RESET held low: the cause of the reset, the
display timers, the standalone frame starts that are due, and the pin. -/
def resetAs (s : State) (cause : Cause) (timer : Option Time) (due held : Bool) : State :=
  { resetPart s cause with
    sideA := { SideState.reset with standaloneDue := due }
    sideB := { SideState.reset with standaloneDue := due }
    linkA := { LinkState.reset with displayTimer := timer }
    linkB := { LinkState.reset with displayTimer := timer }
    resetHeld := held }

section
variable {s : State} {cause : Cause} {timer : Option Time} {due held : Bool}

theorem resetAs_side (y : Side) :
    (resetAs s cause timer due held).side y = { SideState.reset with standaloneDue := due } := by
  cases y <;> rfl

theorem resetAs_link (y : Side) :
    (resetAs s cause timer due held).link y = { LinkState.reset with displayTimer := timer } := by
  cases y <;> rfl

theorem exec_resetLow : exec .resetLow s = .next (resetAs s .power none false true) := rfl

theorem exec_partReset_of_canTake {x : Side} {r : Request} (h : CanTake s x r) (hk : r.kind = 0x0D) :
    exec (.partReset x) s = .next (resetAs s .request (some 0) true false) := by
  have hexec : exec (.partReset x) s = taken s x .partReset fun t _ _ => resetPart t .request := rfl
  rw [hexec, taken_of_canTake h (requestKind_partReset hk), resetPart, takeRequest, onLink_pending]
  rfl

/-- Every word of both banks reads as 0 with good parity after a reset (R44). -/
theorem reset_bank_read (i : BankId) (w : Nat) : (SideState.reset.store.bank i).read w = ⟨0, false⟩ := by
  cases i <;> rfl

end

/-! ## The check (R59) -/

section
variable {t : Store} {op : Operation} {expected : Half}

theorem checkNext_of_check (hop : t.op = some op) (hk : op.kind = .check expected) (hp : op.progress < 706) :
    t.checkNext = { t with op := some (t.checkStep op) } := by
  simp only [Store.checkNext, hop, hk]
  exact if_pos hp

/-- The first invalid word is kept once one has been met. -/
theorem checkStep_invalid :
    (t.checkStep op).invalid =
      if op.invalid.isSome then op.invalid
      else if wordValid (t.bank t.shadow) op.progress then none
      else some (wordTable op.progress, wordIndex op.progress) := by
  rw [Store.checkStep]
  cases op.invalid <;> rfl

theorem exec_checkWord {s : State} {x : Side} (hr : s.resetHeld = false) :
    exec (.checkWord x) s = .next (s.onSide x fun d => { d with store := d.store.checkNext }) := by
  have hexec : exec (.checkWord x) s = execCheckWord x s := rfl
  rw [hexec, execCheckWord, hr, if_neg Bool.false_ne_true]

end

/-! ## The obligations -/

/-- Settles O5: RESET low and a PART RESET leave the same sides and links but for the display timers, and the reset
tables of the model give each item its value. -/
theorem resetValues : Obligations.ResetValues := by
  intro i s hi
  obtain ⟨due, held, hexec⟩ : ∃ due held, exec i s = .next (resetAs s (if i = .resetLow then .power else .request)
      (if i = .resetLow then none else some 0) due held) := by
    obtain rfl | ⟨x, r, rfl, htake, hk⟩ := hi
    · exact ⟨false, true, exec_resetLow⟩
    · exact ⟨true, false, exec_partReset_of_canTake htake hk⟩
  refine ⟨_, hexec, rfl, rfl, rfl, rfl, rfl, rfl, fun y => ?_⟩
  rw [resetAs_side, resetAs_link]
  refine ⟨reset_bank_read, ?_⟩
  -- A grid of 192 equal entries stays one `List.replicate` on both sides.
  simp +contextual [-List.reduceReplicate, SideState.reset, LinkState.reset, Store.shadow, ParityRecord.empty,
    Conditions.reset, zeroMap, Gathering.empty, Published.empty, zeroTiles, Config.tiles, Settings.reset,
    CameraStatus.empty, Timing.empty, Groups.reset, Groups.initial]

/-- Settles O32: a check in flight with words left takes its next step, which changes the operation alone. -/
theorem checkWordRead : Obligations.CheckWordRead := by
  intro x s op expected hr hop hk hp bank word
  rw [exec_checkWord hr]
  refine congrArg Host.Outcome.next (Reception.onSide_congr ?_)
  rw [checkNext_of_check hop hk hp, ← checkStep_invalid]
  rfl

end Sys2Proof.TableBanks
end

section
/-! The exposure part of a frame-end update (R114), and CAMERA PASS (R125) with
the command lane that it finds (R119). -/

namespace Sys2Proof.ExposureControl

open Sys2Proof Sys2Proof.Machine

/-! ## One step of E (R114) -/

section
variable {words : List Nat} {e mean : Nat}

theorem stepIndex_of_within (hup : exposeWord words 0 ≤ mean + exposeWord words 1)
    (hdown : mean ≤ exposeWord words 0 + exposeWord words 1) : stepIndex words e mean = e :=
  if_pos (by omega)

/-- A mean more than D below the target moves E up. -/
theorem stepIndex_of_dark (h : mean + exposeWord words 1 < exposeWord words 0) :
    stepIndex words e mean =
      max (exposeWord words 4) (min (exposeWord words 5)
        (e + min (exposeWord words 3) (max 1 ((exposeWord words 0 - mean) / 2 ^ exposeWord words 2)))) := by
  have hsize : ((exposeWord words 0 : Int) - mean).natAbs = exposeWord words 0 - mean := by omega
  have hout : ¬ exposeWord words 0 - mean ≤ exposeWord words 1 := by omega
  have hpos : (0 : Int) < (exposeWord words 0 : Int) - mean := by omega
  simp only [stepIndex, hsize, if_neg hout, if_pos hpos]
  omega

/-- A mean more than D above the target moves E down. Where the model's difference is negative, the truncated one is 0,
and Emin is at least either. -/
theorem stepIndex_of_bright (h : exposeWord words 0 + exposeWord words 1 < mean) :
    stepIndex words e mean =
      max (exposeWord words 4) (min (exposeWord words 5)
        (e - min (exposeWord words 3) (max 1 ((mean - exposeWord words 0) / 2 ^ exposeWord words 2)))) := by
  have hsize : ((exposeWord words 0 : Int) - mean).natAbs = mean - exposeWord words 0 := by omega
  have hout : ¬ mean - exposeWord words 0 ≤ exposeWord words 1 := by omega
  have hneg : ¬ (0 : Int) < (exposeWord words 0 : Int) - mean := by omega
  simp only [stepIndex, hsize, if_neg hout, if_neg hneg]
  omega

/-- An E within the limits stays within them, and its step is at most MaxStep. -/
theorem stepIndex_bounded (hlo : exposeWord words 4 ≤ e) (hhi : e ≤ exposeWord words 5) :
    exposeWord words 4 ≤ stepIndex words e mean ∧ stepIndex words e mean ≤ exposeWord words 5 ∧
      stepIndex words e mean ≤ e + exposeWord words 3 ∧ e ≤ stepIndex words e mean + exposeWord words 3 := by
  by_cases hdark : mean + exposeWord words 1 < exposeWord words 0
  · rw [stepIndex_of_dark hdark]
    omega
  by_cases hbright : exposeWord words 0 + exposeWord words 1 < mean
  · rw [stepIndex_of_bright hbright]
    omega
  · rw [stepIndex_of_within (Nat.not_lt.mp hdark) (Nat.not_lt.mp hbright)]
    omega

end

/-! ## A pass-through payload and the command lane (R119, R125) -/

section
variable {e : Exposure} {payload : List Byte}

theorem queuePass_of_busy (h : e.lane ≠ .idle) :
    e.queuePass payload = { e with passQueue := e.passQueue ++ [payload] } :=
  choose_busy _ h

/-- With no exposure command waiting, an IDLE transmitter sends the head of the pass-through queue. -/
theorem choose_pass {rest : List (List Byte)} (hl : e.lane = .idle) (hs : ∀ tag index, e.slot ≠ .waitingTx tag index)
    (hq : e.passQueue = payload :: rest) :
    e.choose = { e with lane := .pass (passCell payload), passQueue := rest } := by
  rw [Exposure.choose, hl]
  cases hslot : e.slot with
  | waitingTx tag index => exact absurd hslot (hs tag index)
  | empty | sent => simp only [hq]

theorem queuePass_of_idle (hl : e.lane = .idle) (hs : ∀ tag index, e.slot ≠ .waitingTx tag index)
    (hq : e.passQueue = []) : e.queuePass payload = { e with lane := .pass (passCell payload) } := by
  have hhead : e.passQueue ++ [payload] = [payload] := by rw [hq, List.nil_append]
  rw [Exposure.queuePass, choose_pass (e := { e with passQueue := e.passQueue ++ [payload] }) hl hs hhead, ← hq]

end

/-! ## CAMERA PASS taken (R125, R183) -/

section
variable {s : State} {x y : Side} {r : Request}

theorem passInRange_eq_not :
    r.passInRange = !decide (r.count.toNat = 0 ∨ 8 < r.count.toNat ∨ r.payload.length ≠ r.count.toNat) := by
  rw [Bool.eq_iff_iff]
  simp [Request.passInRange, and_assoc]

theorem requestKind_cameraPass (h : r.kind = 0x0B) : r.requestKind = .cameraPass := by
  rw [Request.requestKind, h]
  rfl

/-- A response to the request that was taken, beside a change of one side. -/
theorem respond_onSide_takeRequest (f : SideState → SideState) (a : Response) :
    respond ((takeRequest s x).onSide y f) x a = answered (s.onSide y f) x a := by
  rw [respond, takeRequest, onLink_onSide, onLink_onLink]
  rfl

theorem respond_takeRequest (a : Response) : respond (takeRequest s x) x a = answered s x a := by
  rw [respond, takeRequest, onLink_onLink]
  rfl

theorem exec_cameraPass_of_canTake (h : CanTake s x r) (hk : r.kind = 0x0B) :
    exec (.cameraPass x) s = .next (doCameraPass (takeRequest s x) x r) := by
  have hexec : exec (.cameraPass x) s = taken s x .cameraPass doCameraPass := rfl
  rw [hexec, TableBanks.taken_of_canTake h (requestKind_cameraPass hk)]

theorem exec_cameraPass_unnamed (h : CanTake s x r) (hk : r.kind = 0x0B) (hn : r.names = none) :
    exec (.cameraPass x) s = .next (answered s x (.refused .unknown)) := by
  rw [exec_cameraPass_of_canTake h hk, doCameraPass, hn, ← respond_takeRequest]
  rfl

/-- RANGE is judged before BUSY, and the payload is queued only when neither holds. -/
theorem exec_cameraPass_named (h : CanTake s x r) (hk : r.kind = 0x0B) (hn : r.names = some y) :
    exec (.cameraPass x) s = .next
      (if r.count.toNat = 0 ∨ 8 < r.count.toNat ∨ r.payload.length ≠ r.count.toNat then
        answered s x (.refused .range)
      else if 4 ≤ (s.side y).exposure.passQueue.length then answered s x (.refused .busy)
      else answered (s.onSide y fun d => { d with exposure := d.exposure.queuePass r.payload }) x .done) := by
  have hside : (takeRequest s x).side y = s.side y := onLink_side s x y _
  rw [exec_cameraPass_of_canTake h hk, doCameraPass, hn, passInRange_eq_not, ← respond_onSide_takeRequest,
    ← respond_takeRequest, ← respond_takeRequest, Bool.not_not]
  simp only [hside, decide_eq_true_eq]
  rfl

/-- An accepted pass is given by any change of the side that comes to queueing the payload. -/
theorem exec_cameraPass_accepted (h : CanTake s x r) (hk : r.kind = 0x0B) (hn : r.names = some y)
    (hok : ¬ (r.count.toNat = 0 ∨ 8 < r.count.toNat ∨ r.payload.length ≠ r.count.toNat))
    (hroom : (s.side y).exposure.passQueue.length < 4) {f : SideState → SideState}
    (hf : { s.side y with exposure := (s.side y).exposure.queuePass r.payload } = f (s.side y)) :
    exec (.cameraPass x) s = .next (answered (s.onSide y f) x .done) := by
  rw [exec_cameraPass_named h hk hn, if_neg hok, if_neg (Nat.not_le.mpr hroom)]
  exact congrArg (fun t => Host.Outcome.next (answered t x .done)) (Reception.onSide_congr hf)

end

/-! ## The obligations -/

/-- Settles O40, by the three places of the metered mean: within the dead band, below it and above it. -/
theorem exposureStepBounded : Obligations.ExposureStepBounded := fun _ _ _ =>
  ⟨stepIndex_of_within, stepIndex_of_dark, stepIndex_of_bright, stepIndex_bounded⟩

/-- Settles O58: the order of the refusals, and what the transmitter makes of the queue that holds the payload. -/
theorem cameraPassQueued : Obligations.CameraPassQueued := by
  intro x r s htake hk
  refine ⟨exec_cameraPass_unnamed htake hk, fun y hn => ⟨fun hbad => ?_, fun hok hfull => ?_, fun hok hroom hbusy => ?_,
    fun hok hroom _ => ?_, fun hok hempty hidle hslot => ?_⟩⟩
  · rw [exec_cameraPass_named htake hk hn, if_pos hbad]
  · rw [exec_cameraPass_named htake hk hn, if_neg hok, if_pos hfull]
  · exact exec_cameraPass_accepted htake hk hn hok hroom (by rw [queuePass_of_busy hbusy])
  · exact exec_cameraPass_accepted htake hk hn hok hroom rfl
  · have hroom : (s.side y).exposure.passQueue.length < 4 := by simp [hempty]
    exact exec_cameraPass_accepted htake hk hn hok hroom (by rw [queuePass_of_idle hidle hslot hempty]; rfl)

end Sys2Proof.ExposureControl
end

section
/-! The REQUEST cells of a return lane (R182). -/

namespace Sys2Proof.DisplayLinks

open Sys2Proof Sys2Proof.Machine

section
variable {s : State} {x : Side} {body : List Byte}

/-- A change of a link depends only on what it makes of the link as it is. -/
theorem onLink_congr {f g : LinkState → LinkState} (h : f (s.link x) = g (s.link x)) : s.onLink x f = s.onLink x g := by
  cases x
  · exact congrArg (fun l => { s with linkA := l }) h
  · exact congrArg (fun l => { s with linkB := l }) h

theorem queueRequest_of_room {l : LinkState} (r : Request) (h : l.requests.length < 4) :
    l.queueRequest r = { l with requests := l.requests ++ [r] } :=
  if_pos h

theorem queueRequest_of_full {l : LinkState} (r : Request) (h : ¬ l.requests.length < 4) :
    l.queueRequest r = l.discardRequest :=
  if_neg h

theorem exec_request (hr : s.resetHeld = false) :
    exec (.request x body) s =
      if requestGood body then .next (s.onLink x (·.queueRequest (requestFields body)))
      else .next (s.onLink x LinkState.discardRequest) := by
  have hexec : exec (.request x body) s = execRequest x body s := rfl
  rw [hexec, execRequest, hr, if_neg Bool.false_ne_true]

end

/-! ## The obligation -/

/-- Settles O49, by the two tests in their order: is the cell undamaged and well formed, and has the queue room for it.
Failing either, the cell is discarded. -/
theorem requestQueued : Obligations.RequestQueued := by
  intro x body s hr
  rw [exec_request hr]
  by_cases hgood : requestGood body = true
  · rw [if_pos hgood]
    by_cases hroom : (s.link x).requests.length < 4
    · rw [if_pos ⟨hgood, hroom⟩]
      exact congrArg Host.Outcome.next (onLink_congr (queueRequest_of_room _ hroom))
    · rw [if_neg fun h => hroom h.2]
      exact congrArg Host.Outcome.next (onLink_congr (queueRequest_of_full _ hroom))
  · rw [if_neg hgood, if_neg fun h => hgood h.1]
    rfl

end Sys2Proof.DisplayLinks
end

section
/-! What the operations of supervision leave of the view guard and of WARN (R40, R145, R153 to R160). -/

namespace Sys2Proof.Guarding

open Sys2Proof Sys2Proof.Machine

variable (s : State) (x y : Side)

/-! ## A change of the guard (R153) -/

@[simp] theorem setGuard_cond (st : GuardState) (m c : Nat) : ((setGuard s x st m c).side y).cond = (s.side y).cond := by
  unfold setGuard
  dsimp only
  split <;> cases x <;> cases y <;> rfl

@[simp] theorem setGuard_settings (st : GuardState) (m c : Nat) :
    ((setGuard s x st m c).side y).settings = (s.side y).settings := by
  unfold setGuard
  dsimp only
  split <;> cases x <;> cases y <;> rfl

@[simp] theorem setGuard_warn (st : GuardState) (m c : Nat) : (setGuard s x st m c).warn = s.warn := by
  unfold setGuard
  dsimp only
  split <;> cases x <;> rfl

@[simp] theorem setGuard_warnTimer (st : GuardState) (m c : Nat) : (setGuard s x st m c).warnTimer = s.warnTimer := by
  unfold setGuard
  dsimp only
  split <;> cases x <;> rfl

@[simp] theorem setGuard_timeBase (st : GuardState) (m c : Nat) : (setGuard s x st m c).timeBase = s.timeBase :=
  beside_timeBase (setGuard_beside s x st m c)

@[simp] theorem markReports_warn : (markReports s x).warn = s.warn := by cases x <;> rfl

@[simp] theorem markReports_warnTimer : (markReports s x).warnTimer = s.warnTimer := by cases x <;> rfl

@[simp] theorem markReports_timeBase : (markReports s x).timeBase = s.timeBase := by cases x <;> rfl

/-! ## Restoration (R159) -/

/-- The guard at the start of restoration (R159). -/
def Restored (g : Guard) (k : Settings) : Guard :=
  ⟨if k.restoreFrames = 0 then .restoring else .waiting, 64, k.restoreFrames, g.ready⟩

theorem startRestoration_guard :
    ((startRestoration s x).side x).guard = Restored (s.side x).guard (s.side x).settings := by
  unfold startRestoration Restored
  dsimp only
  split
  · rename_i h
    rw [setGuard_guard, h]
  · rw [setGuard_guard]

theorem judgeRestoration_guard :
    ((judgeRestoration s x).side x).guard =
      if (s.side x).guard.state = .held ∧ (s.side x).guard.ready = true ∧ (s.side x).settings.restoreMode = .auto then
        Restored (s.side x).guard (s.side x).settings
      else (s.side x).guard := by
  unfold judgeRestoration
  dsimp only
  split
  · exact startRestoration_guard s x
  · rfl

@[simp] theorem startRestoration_warn : (startRestoration s x).warn = s.warn := by
  unfold startRestoration
  dsimp only
  split <;> simp

@[simp] theorem startRestoration_warnTimer : (startRestoration s x).warnTimer = s.warnTimer := by
  unfold startRestoration
  dsimp only
  split <;> simp

@[simp] theorem judgeRestoration_warn : (judgeRestoration s x).warn = s.warn := by
  unfold judgeRestoration
  dsimp only
  split <;> simp

@[simp] theorem judgeRestoration_warnTimer : (judgeRestoration s x).warnTimer = s.warnTimer := by
  unfold judgeRestoration
  dsimp only
  split <;> simp

/-! ## A trip (R155 to R157) -/

theorem trip_guard :
    ((trip s x).side x).guard =
      { (s.side x).guard.tripped (noPicture (s.side x).cond) with ready := (s.side x).guard.ready } := by
  unfold trip Guard.tripped
  dsimp only
  cases h : (s.side x).guard.state with
  | fading | held =>
    dsimp only
    rw [← h]
  | waiting => exact congrArg SideState.guard (warnPulseStart_side _ x) |>.trans (setGuard_guard s x _ _ _)
  | clear | restoring =>
    dsimp only
    split <;> rw [warnPulseStart_side, setGuard_guard]

theorem warnPulseStart_timed (h : WarnTimed s) : WarnTimed (warnPulseStart s) := by
  unfold warnPulseStart
  split
  · exact h
  · rfl

theorem trip_timed (h : WarnTimed s) : WarnTimed (trip s x) := by
  have hset : ∀ st m, WarnTimed (setGuard s x st m 0) := fun st m => by
    simpa only [WarnTimed, setGuard_warn, setGuard_warnTimer] using h
  unfold trip
  dsimp only
  split <;> (try split) <;> first | exact h | exact warnPulseStart_timed _ (hset _ _)

/-! ## Restore-readiness (R154) -/

/-- The guard once restore-readiness is judged: when it becomes set, a guard in HELD goes on under AUTO (R154, R159). -/
def Readied (g : Guard) (k : Settings) (now : Bool) : Guard :=
  if now = true ∧ g.ready = false ∧ g.state = .held ∧ k.restoreMode = .auto then Restored { g with ready := now } k
  else { g with ready := now }

theorem judgeReady_guard :
    ((judgeReady s x).side x).guard =
      Readied (s.side x).guard (s.side x).settings (s.side x).groups.restoreReady := by
  unfold judgeReady Readied
  dsimp only
  by_cases hnow : (s.side x).groups.restoreReady = true <;> by_cases hold : (s.side x).guard.ready = true
  · simp [hnow, hold, SideState.setReady]
  · simp [hnow, hold, judgeRestoration_guard, SideState.setReady]
  · simp [hnow, hold, SideState.setReady]
  · simp [hnow, hold, SideState.setReady]

@[simp] theorem judgeReady_warn : (judgeReady s x).warn = s.warn := by
  unfold judgeReady
  dsimp only
  split <;> simp

@[simp] theorem judgeReady_warnTimer : (judgeReady s x).warnTimer = s.warnTimer := by
  unfold judgeReady
  dsimp only
  split <;> simp

@[simp] theorem judgeReady_cond : ((judgeReady s x).side y).cond = (s.side y).cond := by
  by_cases hxy : y = x
  · subst hxy
    exact besideSupervision_cond (beside_side (judgeReady_beside s y))
  · rw [beside_side_other hxy (judgeReady_beside s x)]

/-! ## The steps of the guard (R158, R160) -/

/-- An egress frame start steps the guard as its table says (R158, R159). -/
theorem guardStep_guard : ((guardStep s x).side x).guard = (s.side x).guard.stepped (s.side x).settings := by
  unfold guardStep Guard.stepped
  dsimp only
  cases h : (s.side x).guard.state with
  | clear | held | waiting => rfl
  | fading =>
    dsimp only
    by_cases hm : (s.side x).guard.m + (s.side x).settings.fadeStep < 64
    · have hne : ¬ min 64 ((s.side x).guard.m + (s.side x).settings.fadeStep) = 64 := by omega
      rw [if_neg hne, if_pos hm, setGuard_guard, Nat.min_eq_right (by omega)]
    · rw [if_pos (by omega), if_neg hm, judgeRestoration_guard]
      simp only [setGuard_guard, setGuard_settings, true_and]
      split
      · rename_i hr
        rw [hr.1]
        rfl
      · rfl
  | restoring =>
    dsimp only
    by_cases hm : (s.side x).guard.m ≤ (s.side x).settings.fadeStep
    · rw [if_pos (by omega), if_pos hm, setGuard_guard]
    · rw [if_neg (by omega), if_neg hm, setGuard_guard]

/-- The end of an accepted frame counts a WAITING guard down (R160). -/
theorem guardFrameEnd_guard : ((guardFrameEnd s x).side x).guard = (s.side x).guard.counted := by
  unfold guardFrameEnd Guard.counted
  dsimp only
  cases h : (s.side x).guard.state with
  | clear | held | fading | restoring => rfl
  | waiting =>
    dsimp only
    split <;> rw [setGuard_guard]

@[simp] theorem guardStep_warn : (guardStep s x).warn = s.warn := by
  unfold guardStep
  dsimp only
  split <;> (try split) <;> simp

@[simp] theorem guardStep_warnTimer : (guardStep s x).warnTimer = s.warnTimer := by
  unfold guardStep
  dsimp only
  split <;> (try split) <;> simp

@[simp] theorem guardFrameEnd_warn : (guardFrameEnd s x).warn = s.warn := by
  unfold guardFrameEnd
  dsimp only
  split <;> (try split) <;> simp

@[simp] theorem guardFrameEnd_warnTimer : (guardFrameEnd s x).warnTimer = s.warnTimer := by
  unfold guardFrameEnd
  dsimp only
  split <;> (try split) <;> simp

@[simp] theorem guardStep_groups : ((guardStep s x).side y).groups = (s.side y).groups := by
  unfold guardStep
  dsimp only
  split <;> (try split) <;> simp

@[simp] theorem guardFrameEnd_groups : ((guardFrameEnd s x).side y).groups = (s.side y).groups := by
  unfold guardFrameEnd
  dsimp only
  split <;> (try split) <;> simp

@[simp] theorem guardStep_fault : (guardStep s x).fault = s.fault := by
  unfold guardStep
  dsimp only
  split <;> (try split) <;> simp

@[simp] theorem guardFrameEnd_fault : (guardFrameEnd s x).fault = s.fault := by
  unfold guardFrameEnd
  dsimp only
  split <;> (try split) <;> simp

/-! ## An evaluation (R134 to R138) -/

/-- A level-3 group that comes to hold its side back raises a trip (R135, R138). -/
theorem trips_of_holdsBack {old new : Group} (hold : (old.level == 3 && old.nonconforming) = false)
    (hnew : (new.level == 3 && new.nonconforming) = true) : trips (old, new) = true := by
  simp only [trips, Bool.and_eq_true, Bool.and_eq_false_iff, Bool.or_eq_true, Bool.not_eq_true'] at *
  obtain ⟨hlevel, hnon⟩ := hnew
  exact ⟨⟨hnon, hlevel⟩, hold.symm.imp_right fun h => by simpa using h⟩

/-- A side that has been restore-ready and is so no more has been tripped (R154). -/
theorem trips_of_unready {old new : Groups} (hold : old.restoreReady = true) (hnew : new.restoreReady = false) :
    (old.pairs new).any trips = true := by
  simp only [Groups.restoreReady, Groups.list, List.all_cons, List.all_nil, Bool.and_true, Bool.and_eq_true,
    Bool.not_eq_true'] at hold
  obtain ⟨h0, h1, h2, h3⟩ := hold
  by_contra hcalm
  simp only [Groups.pairs, List.any_cons, List.any_nil, Bool.or_false, Bool.or_eq_true, not_or] at hcalm
  obtain ⟨c0, c1, c2, c3⟩ := hcalm
  have hready : new.restoreReady = true := by
    simp only [Groups.restoreReady, Groups.list, List.all_cons, List.all_nil, Bool.and_true, Bool.and_eq_true,
      Bool.not_eq_true']
    exact ⟨Bool.eq_false_iff.mpr fun h => c0 (trips_of_holdsBack h0 h),
      Bool.eq_false_iff.mpr fun h => c1 (trips_of_holdsBack h1 h),
      Bool.eq_false_iff.mpr fun h => c2 (trips_of_holdsBack h2 h),
      Bool.eq_false_iff.mpr fun h => c3 (trips_of_holdsBack h3 h)⟩
  exact Bool.noConfusion (hnew.symm.trans hready)

/-- What an evaluation makes of the guard: restore-readiness first, then one trip (R136). -/
theorem evaluateFrom_guard (old : Groups) :
    ((evaluateFrom s x old).side x).guard =
      let d := s.side x
      let new := d.groups.map (Group.judge d.cond.vector)
      let g := Readied d.guard d.settings new.restoreReady
      if (old.pairs new).any trips then { g.tripped (noPicture d.cond) with ready := g.ready } else g := by
  have hside : ∀ b : Bool, ((if b then markReports (s.onSide x SideState.judgeGroups) x
      else s.onSide x SideState.judgeGroups).side x) = (s.side x).judgeGroups := fun b => by
    cases b <;> simp
  have hnew : (s.side x).groups.map (Group.judge (s.side x).cond.vector) = (s.side x).judgeGroups.groups := rfl
  unfold evaluateFrom actOnGroups
  dsimp only
  rw [onSide_side_same, hnew]
  split
  · rw [trip_guard, judgeReady_guard, judgeReady_cond, judgeFault_side, hside]
    rfl
  · rw [judgeReady_guard, judgeFault_side, hside]
    rfl

theorem evaluateFrom_timed (old : Groups) (h : WarnTimed s) : WarnTimed (evaluateFrom s x old) := by
  have hready : ∀ t : State, WarnTimed t → WarnTimed (judgeReady (judgeFault t) x) := fun t ht => by
    rw [WarnTimed, judgeReady_warn, judgeReady_warnTimer]
    exact ht
  have hside : WarnTimed (s.onSide x SideState.judgeGroups) := by
    simpa only [WarnTimed, onSide_warn, onSide_warnTimer] using h
  have hmark : ∀ b : Bool, WarnTimed (if b then markReports (s.onSide x SideState.judgeGroups) x
      else s.onSide x SideState.judgeGroups) := fun b => by
    cases b
    · exact hside
    · simpa only [WarnTimed, markReports_warn, markReports_warnTimer, if_true] using hside
  unfold evaluateFrom actOnGroups
  dsimp only
  split
  · exact trip_timed _ x (hready _ (hmark _))
  · exact hready _ (hmark _)

/-! ## The invariants of a guard (R153, R154, R162) -/

/-- A guard in CLEAR, WAITING or RESTORING stands on a restore-ready side (R154, R162). -/
def Stands (g : Guard) : Prop := g.state = .clear ∨ g.state = .waiting ∨ g.state = .restoring → g.ready = true

/-- m and the countdown keep to the state (R153). -/
def Shaped (g : Guard) : Prop :=
  (g.state = .clear → g.m = 0) ∧ (g.state = .held ∨ g.state = .waiting → g.m = 64) ∧ g.m ≤ 64 ∧
    (g.state ≠ .waiting → g.countdown = 0)

theorem guardReady_iff (d : SideState) : d.GuardReady ↔ d.guard.ready = d.groups.restoreReady ∧ Stands d.guard := Iff.rfl

theorem guardShape_iff (d : SideState) : d.GuardShape ↔ Shaped d.guard := Iff.rfl

section
variable {g : Guard} {k : Settings} {b : Bool}

theorem restored_stands (h : g.ready = true) : Stands (Restored g k) := fun _ => h

theorem restored_shaped : Shaped (Restored g k) := by
  by_cases hf : k.restoreFrames = 0 <;> simp [Restored, Shaped, hf]

theorem readied_ready : (Readied g k b).ready = b := by
  unfold Readied
  split <;> rfl

theorem readied_stands (h : b = false → Stands g ∧ g.ready = false) : Stands (Readied g k b) := by
  cases b with
  | true => exact fun _ => readied_ready
  | false =>
    obtain ⟨hg, hr⟩ := h rfl
    simp only [Readied, Bool.false_eq_true, false_and, if_false]
    exact fun hst => absurd (hg hst) (by simp [hr])

theorem readied_shaped (h : Shaped g) : Shaped (Readied g k b) := by
  unfold Readied
  split
  · exact restored_shaped
  · exact h

theorem tripped_stands (gone : Bool) : Stands { g.tripped gone with ready := b } := by
  intro hst
  unfold Guard.tripped at hst
  cases h : g.state <;> cases gone <;> simp [h] at hst

theorem tripped_shaped (gone : Bool) (h : Shaped g) : Shaped { g.tripped gone with ready := b } := by
  unfold Guard.tripped
  unfold Shaped at *
  cases hs : g.state <;> cases gone <;> simp_all

theorem stepped_ready : (g.stepped k).ready = g.ready := by
  unfold Guard.stepped
  cases g.state <;> dsimp only <;> (try split) <;> (try split) <;> simp_all

theorem stepped_stands (h : Stands g) : Stands (g.stepped k) := by
  unfold Stands at *
  rw [stepped_ready]
  unfold Guard.stepped
  cases hs : g.state <;> dsimp only <;> (try split) <;> (try split) <;> simp_all

theorem stepped_shaped (h : Shaped g) : Shaped (g.stepped k) := by
  unfold Shaped at *
  obtain ⟨hclear, hheld, hm, hcount⟩ := h
  unfold Guard.stepped
  cases hs : g.state with
  | clear | held | waiting => exact ⟨hclear, hheld, hm, hcount⟩
  | fading =>
    dsimp only
    split
    · exact ⟨by simp, by simp, by dsimp only; omega, fun _ => rfl⟩
    · split
      · exact restored_shaped (g := { g with ready := true })
      · exact ⟨by simp, fun _ => rfl, Nat.le_refl 64, fun _ => rfl⟩
  | restoring =>
    dsimp only
    split
    · exact ⟨fun _ => rfl, by simp, Nat.zero_le 64, fun _ => rfl⟩
    · exact ⟨by simp, by simp, by dsimp only; omega, fun _ => rfl⟩

theorem counted_ready : g.counted.ready = g.ready := by
  unfold Guard.counted
  cases g.state <;> dsimp only <;> (try split) <;> rfl

theorem counted_stands (h : Stands g) : Stands g.counted := by
  unfold Stands at *
  rw [counted_ready]
  unfold Guard.counted
  cases hs : g.state <;> dsimp only <;> (try split) <;> simp_all

theorem counted_shaped (h : Shaped g) : Shaped g.counted := by
  unfold Guard.counted
  cases hs : g.state with
  | clear | held | fading | restoring => exact h
  | waiting =>
    dsimp only
    split
    · exact ⟨by simp, by simp, Nat.le_refl 64, fun _ => rfl⟩
    · exact ⟨by simp, fun _ => rfl, Nat.le_refl 64, by simp⟩

end

/-- An evaluation leaves the guard on a side of its own readiness, if it stood so on the groups as they were before
(R136, R154). -/
theorem evaluateFrom_guardReady {old : Groups} (hready : (s.side x).guard.ready = old.restoreReady)
    (hstands : Stands (s.side x).guard) : ((evaluateFrom s x old).side x).GuardReady := by
  rw [guardReady_iff, evaluateFrom_guard, evaluateFrom_groups]
  dsimp only
  split
  · exact ⟨readied_ready, tripped_stands _⟩
  · rename_i hcalm
    refine ⟨readied_ready, readied_stands fun hnow => ⟨hstands, ?_⟩⟩
    rw [hready, Bool.eq_false_iff]
    exact fun hold => hcalm (trips_of_unready hold hnow)

theorem evaluateFrom_guardShape {old : Groups} (h : (s.side x).GuardShape) : ((evaluateFrom s x old).side x).GuardShape := by
  rw [guardShape_iff, evaluateFrom_guard]
  dsimp only
  split
  · exact tripped_shaped _ (readied_shaped h)
  · exact readied_shaped h

/-- An evaluation judges the groups on the vector as it stands (R133). -/
theorem evaluateFrom_judged (old : Groups) : ((evaluateFrom s x old).side x).GroupsJudged := by
  rw [SideState.GroupsJudged, evaluateFrom_groups, besideSupervision_cond (beside_side (evaluateFrom_beside s x old))]
  simp [Groups.list, Groups.map, Group.judge, Group.mismatch]

end Sys2Proof.Guarding
end

section
/-! What the operations of the part keep of its invariants: a change of sides and links without an evaluation, an
evaluation, and how they follow one another. -/

namespace Sys2Proof.Invariants

open Sys2Proof Sys2Proof.Machine Sys2Proof.Guarding

/-! ## A side -/

/-- The invariants of a side that supervision has no part in are kept. -/
structure SideKept (d e : SideState) : Prop where
  camera : d.CameraJudged → e.CameraJudged
  link : d.LinkSound → e.LinkSound
  counts : d.CountsSound → e.CountsSound
  bank : d.BankSound → e.BankSound
  canonical : d.BanksCanonical → e.BanksCanonical
  pass : d.PassBounded → e.PassBounded

/-- A change of a side that is no evaluation: its groups, its guard, what DISPLAY_FAULT is judged from and the link of
its operation in flight stand, and its invariants are kept. -/
structure SideStep (d e : SideState) : Prop extends SideKept d e where
  groups : e.groups = d.groups
  guard : e.guard = d.guard
  op : ∀ x, e.store.opFrom x = d.store.opFrom x
  displayFault : e.cond.displayFault = d.cond.displayFault
  mask : e.settings.displayFaultMask = d.settings.displayFaultMask

section
variable {d e f : SideState}

theorem SideKept.refl (d : SideState) : SideKept d d := ⟨id, id, id, id, id, id⟩

theorem SideKept.trans (h : SideKept d e) (k : SideKept e f) : SideKept d f :=
  ⟨k.camera ∘ h.camera, k.link ∘ h.link, k.counts ∘ h.counts, k.bank ∘ h.bank, k.canonical ∘ h.canonical,
    k.pass ∘ h.pass⟩

theorem SideKept.of_beside (h : e.besideSupervision = d.besideSupervision) : SideKept d e := by
  rw [besideSupervision_rest h.symm]
  exact ⟨id, id, id, id, id, id⟩

theorem SideStep.refl (d : SideState) : SideStep d d :=
  ⟨SideKept.refl d, rfl, rfl, fun _ => rfl, rfl, rfl⟩

theorem SideStep.trans (h : SideStep d e) (k : SideStep e f) : SideStep d f :=
  ⟨h.toSideKept.trans k.toSideKept, k.groups.trans h.groups, k.guard.trans h.guard,
    fun x => (k.op x).trans (h.op x), k.displayFault.trans h.displayFault, k.mask.trans h.mask⟩

/-- A change of what no invariant reads, of counts that saturate, of a pass-through queue that keeps its bound, and of
conditions that no stored record, bank or timer is held to. -/
theorem SideStep.fields {r : Receiver} {t : Timing} {p : Option Time} {b : Bool} {q : Pipeline} {st : Stats} {gl : Glare}
    {ex : Exposure} {c : Conditions} (hdiscarded : d.recv.discarded ≤ 65535 → r.discarded ≤ 65535)
    (hfreeze : d.recv.freeze ≤ 255 → r.freeze ≤ 255)
    (hpass : d.exposure.passQueue.length ≤ Config.passSlots → ex.passQueue.length ≤ Config.passSlots)
    (hloss : c.linkLoss = d.cond.linkLoss) (htables : c.noTables = d.cond.noTables)
    (hparity : c.tableParity = d.cond.tableParity) (hcamera : c.cameraFault = d.cond.cameraFault)
    (htemp : c.tempHigh = d.cond.tempHigh) (hdisplay : c.displayFault = d.cond.displayFault) :
    SideStep d { d with
      recv := r, timing := t, periodTimer := p, standaloneDue := b, pipe := q, stats := st, glare := gl
      exposure := ex, cond := c } := by
  refine ⟨⟨fun h => ?_, fun h => ?_, fun ⟨hd, hf, hp⟩ => ⟨hdiscarded hd, hfreeze hf, hp⟩, fun h => ?_, id, hpass⟩, rfl,
    rfl, fun _ => rfl, hdisplay, rfl⟩
  · simpa only [SideState.CameraJudged, hcamera, htemp] using h
  · simpa only [SideState.LinkSound, hloss] using h
  · simpa only [SideState.BankSound, htables, hparity] using h

/-- The same with the conditions as they were. -/
theorem SideStep.data {r : Receiver} {t : Timing} {p : Option Time} {b : Bool} {q : Pipeline} {st : Stats} {gl : Glare}
    {ex : Exposure} (hdiscarded : d.recv.discarded ≤ 65535 → r.discarded ≤ 65535)
    (hfreeze : d.recv.freeze ≤ 255 → r.freeze ≤ 255)
    (hpass : d.exposure.passQueue.length ≤ Config.passSlots → ex.passQueue.length ≤ Config.passSlots) :
    SideStep d { d with
      recv := r, timing := t, periodTimer := p, standaloneDue := b, pipe := q, stats := st, glare := gl
      exposure := ex } :=
  SideStep.fields hdiscarded hfreeze hpass rfl rfl rfl rfl rfl rfl

end

/-! ## A link -/

/-- A change of a link: its queues keep their bounds, its reserved slots and its display status record stand. -/
structure LinkStep (l m : LinkState) : Prop where
  queues : l.QueuesBounded → m.QueuesBounded
  reserved : m.reservedSlots = l.reservedSlots
  display : m.display = l.display

section
variable {l m n : LinkState}

theorem LinkStep.refl (l : LinkState) : LinkStep l l := ⟨id, rfl, rfl⟩

theorem LinkStep.trans (h : LinkStep l m) (k : LinkStep m n) : LinkStep l n :=
  ⟨k.queues ∘ h.queues, k.reserved.trans h.reserved, k.display.trans h.display⟩

/-- A change of the lane, the frames, the waiting FRAME STARTs, the run, the timer and the report-pending flags, with a
buffer that keeps its bound. -/
theorem LinkStep.lane {lane : Lane} {number : Byte} {frames : List EgressFrame} {buffer : List OutLine}
    {starts : List FrameStartCell} {run : Option Nat} {timer : Option Time} {a b : Bool}
    (hbuffer : l.buffer.length ≤ Config.bufferLines → buffer.length ≤ Config.bufferLines) :
    LinkStep l { l with
      lane := lane, number := number, frames := frames, buffer := buffer, waitingStarts := starts, run := run
      displayTimer := timer, reportA := a, reportB := b } :=
  ⟨fun ⟨hq, hr, hb⟩ => ⟨hq, hr, hbuffer hb⟩, rfl, rfl⟩

/-- The head response leaves the queue when it is sent; a reserved slot does not. -/
theorem LinkStep.sent {r : Response} {rest : List ResponseSlot} {lane : Lane} (h : l.responses = .ready r :: rest) :
    LinkStep l { l with lane := lane, responses := rest } := by
  refine ⟨fun ⟨hq, hr, hb⟩ => ⟨hq, ?_, hb⟩, ?_, rfl⟩
  · rw [h, List.length_cons] at hr
    exact Nat.le_of_succ_le hr
  · simp only [LinkState.reservedSlots, h]
    rfl

end

/-! ## The part -/

/-- The invariants of the part that supervision has no part in are kept, and the commands that wait. -/
structure Kept (s t : State) : Prop where
  pending : t.pending = s.pending
  sides : ∀ y, SideKept (s.side y) (t.side y)
  links : ∀ y, (s.link y).QueuesBounded → (t.link y).QueuesBounded
  display : ∀ y, DisplayJudged s y → DisplayJudged t y
  slots : ∀ y, SlotsAccounted s y → SlotsAccounted t y

/-- A change without an evaluation: what supervision holds stands, and so do the conditions of every side but x. -/
structure Change (x : Side) (s t : State) : Prop extends Kept s t where
  fault : t.fault = s.fault
  warn : t.warn = s.warn
  warnTimer : t.warnTimer = s.warnTimer
  groups : ∀ y, (t.side y).groups = (s.side y).groups
  guard : ∀ y, (t.side y).guard = (s.side y).guard
  cond : ∀ y, y ≠ x → (t.side y).cond = (s.side y).cond

/-- Every invariant of the part is kept, but that of the receivers, and the commands that wait. -/
structure Sound (s t : State) : Prop extends Kept s t where
  fault : FaultExact s → FaultExact t
  warn : WarnTimed s → WarnTimed t
  ready : ∀ y, (s.side y).GuardReady → (t.side y).GuardReady
  shape : ∀ y, (s.side y).GuardShape → (t.side y).GuardShape
  judged : ∀ y, (s.side y).GroupsJudged → (t.side y).GroupsJudged

section
variable {s t u : State} {x y : Side}

theorem Kept.refl (s : State) : Kept s s :=
  ⟨rfl, fun _ => SideKept.refl _, fun _ => id, fun _ => id, fun _ => id⟩

theorem Kept.trans (h : Kept s t) (k : Kept t u) : Kept s u :=
  ⟨k.pending.trans h.pending, fun y => (h.sides y).trans (k.sides y), fun y => k.links y ∘ h.links y,
    fun y => k.display y ∘ h.display y, fun y => k.slots y ∘ h.slots y⟩

theorem Change.refl (x : Side) (s : State) : Change x s s :=
  ⟨Kept.refl s, rfl, rfl, rfl, fun _ => rfl, fun _ => rfl, fun _ _ => rfl⟩

theorem Change.trans (h : Change x s t) (k : Change x t u) : Change x s u :=
  ⟨h.toKept.trans k.toKept, k.fault.trans h.fault, k.warn.trans h.warn, k.warnTimer.trans h.warnTimer,
    fun y => (k.groups y).trans (h.groups y), fun y => (k.guard y).trans (h.guard y),
    fun y hy => (k.cond y hy).trans (h.cond y hy)⟩

theorem Sound.refl (s : State) : Sound s s :=
  ⟨Kept.refl s, id, id, fun _ => id, fun _ => id, fun _ => id⟩

theorem Sound.trans (h : Sound s t) (k : Sound t u) : Sound s u :=
  ⟨h.toKept.trans k.toKept, k.fault ∘ h.fault, k.warn ∘ h.warn, fun y => k.ready y ∘ h.ready y,
    fun y => k.shape y ∘ h.shape y, fun y => k.judged y ∘ h.judged y⟩

/-- A change that leaves the conditions as they were needs no evaluation. -/
theorem Change.sound (h : Change x s t) (hc : (t.side x).cond = (s.side x).cond) : Sound s t := by
  have hcond : ∀ y, (t.side y).cond = (s.side y).cond := fun y => by
    by_cases hy : y = x
    · rw [hy, hc]
    · exact h.cond y hy
  refine ⟨h.toKept, fun hf => ?_, fun hw => ?_, fun y hg => ?_, fun y hg => ?_, fun y hg => ?_⟩
  · rw [FaultExact, h.fault, faultOf_congr h.groups]
    exact hf
  · rw [WarnTimed, h.warn, h.warnTimer]
    exact hw
  · rw [SideState.GuardReady, h.guard, h.groups]
    exact hg
  · rw [SideState.GuardShape, h.guard]
    exact hg
  · rw [SideState.GroupsJudged, h.groups, hcond]
    exact hg

/-! ## Changes of one side or one link -/

theorem slotsAccounted_congr (hl : (t.link y).reservedSlots = (s.link y).reservedSlots) (ho : opsFrom t y = opsFrom s y)
    (h : SlotsAccounted s y) : SlotsAccounted t y := by
  rwa [SlotsAccounted, hl, ho]

theorem displayJudged_congr (hl : (t.link y).display = (s.link y).display)
    (hf : (t.side y).cond.displayFault = (s.side y).cond.displayFault)
    (hm : (t.side y).settings.displayFaultMask = (s.side y).settings.displayFaultMask) (h : DisplayJudged s y) :
    DisplayJudged t y := by
  rwa [DisplayJudged, hl, hf, hm]

theorem opsFrom_congr (h : ∀ z, (t.side z).store.opFrom y = (s.side z).store.opFrom y) : opsFrom t y = opsFrom s y := by
  have ha := h .a
  have hb := h .b
  simp only [State.side] at ha hb
  rw [opsFrom, ha, hb]
  rfl

/-- A property of every side carries over a change of one side. -/
theorem onSide_forall {P : SideState → SideState → Prop} {f : SideState → SideState} (hrefl : ∀ d, P d d)
    (h : P (s.side x) (f (s.side x))) (y : Side) : P (s.side y) ((s.onSide x f).side y) := by
  by_cases hy : y = x
  · subst hy
    rwa [onSide_side_same]
  · rw [onSide_side_other _ _ hy]
    exact hrefl _

/-- A property of every link carries over a change of one link. -/
theorem onLink_forall {P : LinkState → LinkState → Prop} {f : LinkState → LinkState} (hrefl : ∀ l, P l l)
    (h : P (s.link x) (f (s.link x))) (y : Side) : P (s.link y) ((s.onLink x f).link y) := by
  by_cases hy : y = x
  · subst hy
    rwa [onLink_link_same]
  · rw [onLink_link_other _ _ hy]
    exact hrefl _

theorem Change.onSide {f : SideState → SideState} (h : SideStep (s.side x) (f (s.side x))) :
    Change x s (s.onSide x f) := by
  have hall : ∀ y, SideStep (s.side y) ((s.onSide x f).side y) := onSide_forall SideStep.refl h
  refine ⟨⟨onSide_pending s x f, fun y => (hall y).toSideKept, fun y => ?_, fun y => ?_, fun y => ?_⟩,
    onSide_fault s x f, onSide_warn s x f, onSide_warnTimer s x f, fun y => (hall y).groups, fun y => (hall y).guard,
    fun y hy => ?_⟩
  · rw [onSide_link]
    exact id
  · exact displayJudged_congr (by rw [onSide_link]) (hall y).displayFault (hall y).mask
  · exact slotsAccounted_congr (by rw [onSide_link]) (opsFrom_congr fun z => (hall z).op y)
  · rw [onSide_side_other _ _ hy]

theorem Change.onLink {x z : Side} {f : LinkState → LinkState} (h : LinkStep (s.link z) (f (s.link z))) :
    Change x s (s.onLink z f) := by
  have hall : ∀ y, LinkStep (s.link y) ((s.onLink z f).link y) := onLink_forall LinkStep.refl h
  refine ⟨⟨onLink_pending s z f, fun y => ?_, fun y => (hall y).queues, fun y => ?_, fun y => ?_⟩,
    onLink_fault s z f, onLink_warn s z f, onLink_warnTimer s z f, fun y => ?_, fun y => ?_, fun y hy => ?_⟩
  · rw [onLink_side]
    exact SideKept.refl _
  · exact displayJudged_congr (hall y).display (by rw [onLink_side]) (by rw [onLink_side])
  · exact slotsAccounted_congr (hall y).reserved (opsFrom_congr fun z => by rw [onLink_side])
  all_goals rw [onLink_side]

/-- A change of a side that keeps its conditions. -/
theorem Sound.onSide {f : SideState → SideState} (h : SideStep (s.side x) (f (s.side x)))
    (hc : (f (s.side x)).cond = (s.side x).cond) : Sound s (s.onSide x f) :=
  (Change.onSide h).sound (by rw [onSide_side_same, hc])

theorem Sound.onLink {z : Side} {f : LinkState → LinkState} (h : LinkStep (s.link z) (f (s.link z))) :
    Sound s (s.onLink z f) :=
  (Change.onLink (x := z) h).sound (by rw [onLink_side])

/-! ## Evaluations -/

/-- States that agree beside supervision have links that differ in report-pending flags alone. -/
theorem beside_link (h : t.besideSupervision x = s.besideSupervision x) (y : Side) :
    ∃ a b, t.link y = { s.link y with reportA := a, reportB := b } := by
  refine ⟨(t.link y).reportA, (t.link y).reportB, ?_⟩
  have ha := congrArg State.linkA h
  have hb := congrArg State.linkB h
  cases x <;> cases y <;>
    simp only [State.besideSupervision, State.onLink, State.onSide, State.link, LinkState.setReport,
      LinkState.mk.injEq] at ha hb ⊢ <;>
    (generalize State.linkA t = p at *; generalize State.linkB t = q at *; cases p; cases q; simp_all)

/-- What an operation of supervision leaves of the invariants that supervision has no part in. -/
theorem Kept.of_beside (h : t.besideSupervision x = s.besideSupervision x) : Kept s t := by
  have hside : ∀ y, SideKept (s.side y) (t.side y) ∧ (t.side y).store = (s.side y).store ∧
      (t.side y).cond = (s.side y).cond ∧ (t.side y).settings = (s.side y).settings := fun y => by
    by_cases hy : y = x
    · subst hy
      rw [besideSupervision_rest (beside_side h).symm]
      exact ⟨⟨id, id, id, id, id, id⟩, rfl, rfl, rfl⟩
    · rw [beside_side_other hy h]
      exact ⟨SideKept.refl _, rfl, rfl, rfl⟩
  refine ⟨beside_pending h, fun y => (hside y).1, fun y => ?_, fun y => ?_, fun y => ?_⟩ <;>
    obtain ⟨a, b, hl⟩ := beside_link h y <;> obtain ⟨-, -, hcond, hset⟩ := hside y
  · rw [hl]
    exact id
  · exact displayJudged_congr (by rw [hl]) (by rw [hcond]) (by rw [hset])
  · exact slotsAccounted_congr (by rw [hl]; rfl) (opsFrom_congr fun z => by rw [(hside z).2.1])

/-- An evaluation of a side whose groups have just been changed keeps every invariant, if its guard stood on the groups
as they were before. -/
theorem evaluateFrom_kept {old : Groups} (h : Kept s u) (hwarn : WarnTimed s → WarnTimed u)
    (hready : (s.side x).GuardReady → (u.side x).guard.ready = old.restoreReady ∧ Stands (u.side x).guard)
    (hshape : (s.side x).GuardShape → (u.side x).GuardShape)
    (hother : ∀ y, y ≠ x → (u.side y).guard = (s.side y).guard ∧ (u.side y).groups = (s.side y).groups ∧
      (u.side y).cond = (s.side y).cond) : Sound s (evaluateFrom u x old) := by
  have hb := evaluateFrom_beside u x old
  refine ⟨h.trans (Kept.of_beside hb), fun _ => evaluateFrom_fault u x old,
    fun hw => evaluateFrom_timed u x old (hwarn hw), fun y hg => ?_, fun y hg => ?_, fun y hg => ?_⟩ <;>
    by_cases hy : y = x
  · subst hy
    exact evaluateFrom_guardReady u y (hready hg).1 (hready hg).2
  · obtain ⟨hguard, hgroups, -⟩ := hother y hy
    rw [beside_side_other hy hb, SideState.GuardReady, hguard, hgroups]
    exact hg
  · subst hy
    exact evaluateFrom_guardShape u y (hshape hg)
  · rw [beside_side_other hy hb, SideState.GuardShape, (hother y hy).1]
    exact hg
  · subst hy
    exact evaluateFrom_judged u y old
  · obtain ⟨-, hgroups, hcond⟩ := hother y hy
    rw [beside_side_other hy hb, SideState.GroupsJudged, hgroups, hcond]
    exact hg

theorem Change.evaluate (h : Change x s u) : Sound s (evaluate u x) := by
  refine evaluateFrom_kept h.toKept (fun hw => ?_) (fun hg => ?_) (fun hg => ?_) fun y hy =>
    ⟨h.guard y, h.groups y, h.cond y hy⟩
  · rw [WarnTimed, h.warn, h.warnTimer]
    exact hw
  · rw [h.guard, h.groups]
    exact hg
  · rw [SideState.GuardShape, h.guard]
    exact hg

/-- The changes of a command to the conditions of one side, settled. -/
theorem Change.settle (h : Change x s u) : Sound s (settle u x (s.side x).cond) := by
  unfold Machine.settle
  split
  · rename_i hc
    exact h.sound hc
  · exact h.evaluate

/-- An operation of the guard alone: it leaves the groups, FAULT and WARN, and its guard stands as it did. -/
theorem guard_sound (hb : t.besideSupervision x = s.besideSupervision x)
    (hgroups : ∀ y, (t.side y).groups = (s.side y).groups) (hfault : t.fault = s.fault) (hwarn : t.warn = s.warn)
    (htimer : t.warnTimer = s.warnTimer) (hready : (t.side x).guard.ready = (s.side x).guard.ready)
    (hstands : (s.side x).GuardReady → Stands (t.side x).guard)
    (hshape : Shaped (s.side x).guard → Shaped (t.side x).guard) : Sound s t := by
  have hcond : ∀ y, (t.side y).cond = (s.side y).cond := fun y => by
    by_cases hy : y = x
    · rw [hy, besideSupervision_cond (beside_side hb)]
    · rw [beside_side_other hy hb]
  refine ⟨Kept.of_beside hb, fun hf => ?_, fun hw => ?_, fun y hg => ?_, fun y hg => ?_, fun y hg => ?_⟩
  · rw [FaultExact, hfault, faultOf_congr hgroups]
    exact hf
  · rw [WarnTimed, hwarn, htimer]
    exact hw
  · by_cases hy : y = x
    · subst hy
      rw [guardReady_iff, hready, hgroups]
      exact ⟨hg.1, hstands hg⟩
    · rw [beside_side_other hy hb]
      exact hg
  · by_cases hy : y = x
    · subst hy
      exact hshape hg
    · rw [beside_side_other hy hb]
      exact hg
  · rw [SideState.GroupsJudged, hgroups, hcond]
    exact hg

theorem guardStep_sound (s : State) (x : Side) : Sound s (guardStep s x) := by
  refine guard_sound (guardStep_beside s x) (guardStep_groups s x) (guardStep_fault s x) (guardStep_warn s x)
    (guardStep_warnTimer s x) ?_ (fun hg => ?_) fun hg => ?_ <;> rw [guardStep_guard]
  · exact stepped_ready
  · exact stepped_stands hg.2
  · exact stepped_shaped hg

theorem guardFrameEnd_sound (s : State) (x : Side) : Sound s (guardFrameEnd s x) := by
  refine guard_sound (guardFrameEnd_beside s x) (guardFrameEnd_groups s x) (guardFrameEnd_fault s x)
    (guardFrameEnd_warn s x) (guardFrameEnd_warnTimer s x) ?_ (fun hg => ?_) fun hg => ?_ <;> rw [guardFrameEnd_guard]
  · exact counted_ready
  · exact counted_stands hg.2
  · exact counted_shaped hg

theorem startRestoration_groups (s : State) (x y : Side) :
    ((startRestoration s x).side y).groups = (s.side y).groups := by
  unfold startRestoration
  dsimp only
  split <;> simp

theorem startRestoration_fault (s : State) (x : Side) : (startRestoration s x).fault = s.fault := by
  unfold startRestoration
  dsimp only
  split <;> simp

/-- Restoration starts on a restore-ready side (R159, R161). -/
theorem startRestoration_sound (hr : (s.side x).guard.ready = true) : Sound s (startRestoration s x) := by
  refine guard_sound (startRestoration_beside s x) (startRestoration_groups s x) (startRestoration_fault s x)
    (startRestoration_warn s x) (startRestoration_warnTimer s x) ?_ (fun _ => ?_) fun _ => ?_ <;>
    rw [startRestoration_guard]
  · rfl
  · exact restored_stands hr
  · exact restored_shaped

theorem judgeRestoration_sound (s : State) (x : Side) : Sound s (judgeRestoration s x) := by
  unfold judgeRestoration
  dsimp only
  split
  · rename_i h
    exact startRestoration_sound h.2.1
  · exact Sound.refl s

theorem markReports_change (x z : Side) (s : State) : Change x s (markReports s z) := by
  have hstep : ∀ l : LinkState, LinkStep l (l.setReport z true) := fun l => by
    cases z <;> exact LinkStep.lane id
  exact (Change.onLink (hstep _)).trans (Change.onLink (hstep _))

theorem settle_refl (s : State) (x : Side) : settle s x (s.side x).cond = s := if_pos rfl

end

end Sys2Proof.Invariants
end

section
/-! What each operation on a side or a link keeps of the invariants. -/

namespace Sys2Proof.Invariants

open Sys2Proof Sys2Proof.Machine Sys2Proof.Guarding

/-! ## The forward lane of a display link (R172 to R178) -/

section
variable (s : State) (l : LinkState) (x z : Side)

theorem nextFrameCell_step : LinkStep l l.nextFrameCell := by
  unfold LinkState.nextFrameCell
  split
  · exact LinkStep.refl l
  · split
    · split
      · exact LinkStep.refl l
      · exact LinkStep.lane id
    · split
      · split
        · split
          · exact LinkStep.refl l
          · rename_i hbuffer
            refine LinkStep.lane fun h => ?_
            rw [hbuffer, List.length_cons] at h
            exact Nat.le_of_succ_le h
        · split
          · exact LinkStep.lane id
          · exact LinkStep.refl l
      · split <;> exact LinkStep.lane id

theorem arbiter_step {l m : LinkState} (h : arbiter s l = some m) : LinkStep l m := by
  unfold arbiter LinkState.sendResponse at h
  split at h
  · rw [← Option.some.inj h]
    exact LinkStep.lane id
  · split at h
    · rw [← Option.some.inj h]
      exact LinkStep.lane id
    · split at h
      · rename_i hhead
        rw [← Option.some.inj h]
        exact LinkStep.sent hhead
      · cases h

theorem chooseCell_step : LinkStep l (chooseCell s l) := by
  have hclose : LinkStep l { l with run := none }.nextFrameCell :=
    LinkStep.trans (LinkStep.lane id) (nextFrameCell_step { l with run := none })
  unfold chooseCell
  split
  · exact nextFrameCell_step l
  · split
    · exact hclose
    · split
      · rename_i h
        exact (arbiter_step s h).trans (LinkStep.lane id)
      · exact hclose

theorem afterLine_step : LinkStep l (afterLine s l) := by
  unfold afterLine
  split
  · rename_i h
    exact arbiter_step s h
  · exact nextFrameCell_step l

theorem kick_change : Change x s (kick s z) := by
  unfold kick
  split
  · exact Change.onLink (chooseCell_step s _)
  · exact Change.refl x s

variable {s x}

/-- A line enters a buffer that has room for it. -/
theorem enterBuffer_change (hr : (s.link z).hasRoom = true) (line : OutLine) : Change x s (enterBuffer s z line) := by
  refine (Change.onLink (LinkStep.lane fun _ => ?_)).trans (kick_change _ _ _)
  rw [List.length_append]
  exact of_decide_eq_true hr

end

/-! ## A side without its banks -/

section
variable (d : SideState)

theorem setWaiting_step (w : Option Waiting) : SideStep d (d.setWaiting w) := SideStep.data id id id

theorem releaseHeld_step : SideStep d d.releaseHeld := SideStep.data id id id

theorem fillLine_step (y : Nat) : SideStep d (d.fillLine y).1 := SideStep.data id id id

theorem ownLine_step (body : List Byte) : SideStep d (d.ownLine body).1 := SideStep.data id id id

theorem damagedLine_step (body : List Byte) : SideStep d (d.damagedLine body).1 := by
  unfold SideState.damagedLine
  split <;> exact SideStep.data id id id

theorem countDiscarded_step : SideStep d d.countDiscarded := SideStep.data (fun _ => Nat.min_le_left _ _) id id

theorem setRecv_step (r : RecvState) : SideStep d (d.setRecv r) := SideStep.data id id id

theorem discardGathering_step : SideStep d d.discardGathering := SideStep.data id id id

theorem takeInUse_step : SideStep d d.takeInUse := SideStep.data id id id

theorem judgeCounts_step : SideStep d d.judgeCounts := SideStep.fields id id id rfl rfl rfl rfl rfl rfl

theorem freezeNext_le (r : Receiver) : r.freezeNext ≤ 255 := by
  unfold Receiver.freezeNext
  split
  · exact Nat.min_le_left _ _
  · exact Nat.zero_le _

theorem judgeFreeze_step : SideStep d d.judgeFreeze :=
  SideStep.fields id (fun _ => freezeNext_le d.recv) id rfl rfl rfl rfl rfl rfl

theorem setCksum_step (v : Bool) : SideStep d (d.setCksum v) := SideStep.fields id id id rfl rfl rfl rfl rfl rfl

theorem setForced_step (v : Bool) : SideStep d (d.setForced v) := SideStep.fields id id id rfl rfl rfl rfl rfl rfl

theorem rejectFormat_step : SideStep d d.rejectFormat :=
  (setRecv_step d .discarding).trans (SideStep.fields id id id rfl rfl rfl rfl rfl rfl)

theorem judgeCamera_step : SideStep d d.judgeCamera :=
  ⟨⟨fun _ => ⟨rfl, rfl⟩, id, id, id, id, id⟩, rfl, rfl, fun _ => rfl, rfl, rfl⟩

theorem storeStatus_step (body : List Byte) (damaged : Bool) : SideStep d (d.storeStatus body damaged) :=
  ⟨⟨fun _ => ⟨rfl, rfl⟩, id, id, id, id, id⟩, rfl, rfl, fun _ => rfl, rfl, rfl⟩

theorem handStatus_step (tag : BitVec 4) : SideStep d (d.handStatus tag) := by
  unfold SideState.handStatus
  split
  · exact SideStep.fields id id (fun h => (commandLogic_passQueue _).trans h) rfl rfl rfl rfl rfl rfl
  · exact SideStep.refl d

theorem statusCell_step (body : List Byte) : SideStep d (d.statusCell body) := by
  unfold SideState.statusCell
  split
  · exact (storeStatus_step d body false).trans (handStatus_step _ _)
  · split
    · exact storeStatus_step d body true
    · exact setCksum_step d true

theorem complete_passQueue (e : Exposure) : e.complete.passQueue.length ≤ e.passQueue.length := by
  unfold Exposure.complete
  split
  · exact Nat.le_refl _
  all_goals exact choose_passQueue _

theorem frameStart_passQueue (n : Nat) (e : Exposure) : (e.frameStart n).passQueue.length ≤ e.passQueue.length := by
  unfold Exposure.frameStart
  split
  · split
    · exact choose_passQueue _
    · exact Nat.le_refl _
  all_goals exact Nat.le_refl _

theorem storeResult_step (u : Update) : SideStep d (d.storeResult u) :=
  SideStep.fields id id (fun h => (commandLogic_passQueue _).trans h) rfl rfl rfl rfl rfl rfl

theorem completeUpdate_step (u : Update) : SideStep d (d.completeUpdate u) := by
  unfold SideState.completeUpdate
  split
  · exact SideStep.data id id id
  · exact storeResult_step d u

end

/-! ## The banks of a side (chapter 03) -/

section
variable (d : SideState)

/-- A reader of the active bank (R50, R51). -/
theorem findFailed_step (ws : List Nat) : SideStep d (d.findFailed ws) := by
  have hsound := findFailed_sound d ws
  have hcount : d.store.parity.count ≤ 255 → (d.findFailed ws).store.parity.count ≤ 255 := by
    unfold SideState.findFailed
    split
    · exact id
    · split
      · exact id
      · exact enter_count _ _ _
  rw [findFailed_frame] at hsound hcount ⊢
  generalize (d.findFailed ws).store.parity = p at *
  generalize (d.findFailed ws).cond.tableParity = c at *
  exact ⟨⟨id, id, fun ⟨hd, hf, hp⟩ => ⟨hd, hf, hcount hp⟩,
    fun ⟨htables, hparity, hsize, hop⟩ => ⟨htables, hsound hparity, hsize, hop⟩, id, id⟩, rfl, rfl, fun _ => rfl, rfl,
    rfl⟩

/-- A frame start's taking of DEVELOP, SHADE and TONE of an active bank (R49). -/
theorem takeDevelop_step (ha : d.store.active.isSome = true) : SideStep d d.takeDevelop := by
  have hfind := findFailed_step d frameWordList
  have hactive : (d.findFailed frameWordList).store.active = d.store.active := by rw [findFailed_frame]
  refine hfind.trans ?_
  unfold SideState.takeDevelop
  generalize d.findFailed frameWordList = e at *
  have hset : ∀ w h : Nat, SideStep e (e.setFrameSize w h) := fun w h =>
    ⟨⟨id, id, id, fun ⟨htables, hparity, _, hop⟩ => ⟨htables, hparity, by rw [← hactive] at ha; exact ha.symm, hop⟩, id,
      id⟩, rfl, rfl, fun _ => rfl, rfl, rfl⟩
  have hclear : ∀ w h : Nat, SideStep e ((e.clearFrameDependent w).dropUpdate.setFrameSize w h) := fun w h =>
    (hset w h).trans (SideStep.data id (fun _ => Nat.zero_le 255) id)
  unfold SideState.renewSize
  split
  · exact hset _ _
  · split
    · exact hset _ _
    · exact hclear _ _

theorem takeStandalone_step : SideStep d d.takeStandalone := by
  unfold SideState.takeStandalone
  split
  · exact SideStep.refl d
  · rename_i hactive
    exact (takeDevelop_step d (by rw [hactive]; rfl)).trans (SideStep.data id id id)

theorem scrubBatch_step : SideStep d d.scrubBatch := by
  unfold SideState.scrubBatch
  split
  · exact SideStep.refl d
  · refine (findFailed_step d (scrubWords d.store.scrub)).trans ?_
    exact ⟨⟨id, id, id, id, id, id⟩, rfl, rfl, fun _ => rfl, rfl, rfl⟩

theorem startUpdate_step : SideStep d d.startUpdate :=
  (findFailed_step d updateWordList).trans (SideStep.data id id id)

theorem completedEnd_step : SideStep d d.completedEnd := by
  unfold SideState.completedEnd
  split
  · exact discardGathering_step d
  · exact SideStep.trans (SideStep.data id id id) (startUpdate_step _)

theorem closeFrame_step : SideStep d d.closeFrame :=
  (((judgeCounts_step d).trans (judgeFreeze_step _)).trans (completedEnd_step _)).trans (setRecv_step _ _)

/-- An acceptance, which finds an active bank, brings the link and the source back (R7, R34, R165). -/
theorem accept_step (now : Time) (number : Byte) (values : FrameValues) (ha : d.store.active.isSome = true) :
    SideStep d (d.accept now number values) :=
  ⟨⟨id, fun _ => ⟨⟨fun _ => ⟨ha, rfl⟩, fun _ => rfl⟩, fun _ => ha, rfl⟩,
    fun ⟨_, hf, hp⟩ => ⟨Nat.zero_le _, hf, hp⟩, id, id, fun h => (frameStart_passQueue _ _).trans h⟩, rfl, rfl,
    fun _ => rfl, rfl, rfl⟩

/-! ### The swap (R62 to R65) -/

theorem swap_parity :
    d.swap.cond.tableParity = d.swap.store.parity.first.isSome ∧ d.swap.store.parity.count ≤ 255 := by
  have hf := findFailed_sound d.exchangeBanks swapWordList rfl
  have hc := (findFailed_step d.exchangeBanks swapWordList).counts
  have hcount : (d.exchangeBanks.findFailed swapWordList).store.parity.count ≤ 255 := by
    unfold SideState.findFailed
    split
    · exact Nat.zero_le 255
    · split
      · exact Nat.zero_le 255
      · exact enter_count _ _ _ (Nat.zero_le 255)
  unfold SideState.swap
  dsimp only
  generalize d.exchangeBanks.findFailed swapWordList = e at *
  unfold SideState.swapSize
  split <;> exact ⟨hf, hcount⟩

theorem swap_frameSize : d.swap.store.frameSize = some (d.exchangeBanks.swapValues.width, d.exchangeBanks.swapValues.height) := by
  unfold SideState.swap SideState.swapSize
  dsimp only
  split
  · assumption
  · rfl

theorem swap_freeze (h : d.recv.freeze ≤ 255) : d.swap.recv.freeze ≤ 255 := by
  have hfreeze : (d.exchangeBanks.findFailed swapWordList).recv.freeze = d.recv.freeze := by rw [findFailed_frame]; rfl
  unfold SideState.swap SideState.swapSize
  dsimp only
  split
  · exact hfreeze.trans_le h
  · exact Nat.zero_le 255

theorem swap_exposure :
    d.swap.exposure = ((d.exchangeBanks.findFailed swapWordList).clampToBank d.exchangeBanks.swapValues).exposure := by
  unfold SideState.swap SideState.swapSize
  dsimp only
  split <;> rfl

theorem swap_passQueue : d.swap.exposure.passQueue.length ≤ d.exposure.passQueue.length := by
  have hq : (d.exchangeBanks.findFailed swapWordList).exposure = d.exposure := by rw [findFailed_frame]; rfl
  rw [swap_exposure, ← hq]
  exact commandLogic_passQueue _

theorem swap_step : SideStep d d.swap := by
  obtain ⟨hparity, hcount⟩ := swap_parity d
  have hsize := swap_frameSize d
  have hpass := swap_passQueue d
  have hfreeze := swap_freeze d
  rw [swap_frame] at *
  refine ⟨⟨id, fun ⟨hsource, hloss, htimer⟩ => ⟨?_, fun _ => rfl, htimer⟩, fun ⟨hd, hf, _⟩ => ⟨hd, hfreeze hf, hcount⟩,
    fun ⟨_, _, _, hop⟩ => ⟨rfl, hparity, ?_, fun op ho => ⟨(hop op ho).1, rfl, fun _ => rfl⟩⟩, id, hpass.trans⟩, rfl, rfl,
    fun _ => rfl, rfl, rfl⟩
  · exact hsource.trans ⟨fun h => ⟨rfl, h.2⟩, fun h => ⟨hloss h.2, h.2⟩⟩
  · dsimp only
    rw [hsize]
    rfl

/-! ### The copy (R56) -/

theorem copyNext_opFrom (x : Side) : d.copyNext.store.opFrom x = d.store.opFrom x := by
  unfold SideState.copyNext
  split
  · rename_i op hop
    split
    · split
      · simp [SideState.copyStep, Store.opFrom, hop]
      · rfl
    · rfl
  · rfl

theorem writeBank_canonical {i : BankId} {w : Nat} (v : Half) (hw : w < Config.bankWords) (h : d.BanksCanonical) :
    { d with store := d.store.onBank i fun b => b.write w v }.BanksCanonical := by
  obtain ⟨h0, h1⟩ := h
  cases i
  · exact ⟨Bank.write_wf v hw h0, h1⟩
  · exact ⟨h0, Bank.write_wf v hw h1⟩

theorem copyNext_step : SideStep d d.copyNext := by
  unfold SideState.copyNext
  split
  · rename_i op hop
    split
    · rename_i hkind
      split
      · rename_i hp
        refine (findFailed_step d [op.progress]).trans ?_
        have hfop : (d.findFailed [op.progress]).store.op = some op := by rw [findFailed_frame]; exact hop
        unfold SideState.copyStep
        dsimp only
        generalize d.findFailed [op.progress] = e at *
        refine ⟨⟨id, fun h => ?_, fun h => ?_, fun h => ?_, fun h => ?_, id⟩, rfl, rfl, fun z => ?_, rfl, rfl⟩
        · simpa [SideState.LinkSound] using h
        · simpa [SideState.CountsSound] using h
        · obtain ⟨htables, hparity, hsize, hops⟩ := h
          refine ⟨by simpa using htables, by simpa using hparity, by simpa using hsize, fun op' ho => ?_⟩
          obtain ⟨-, hcommit, hactive⟩ := hops op hfop
          obtain rfl := Option.some.inj ho
          exact ⟨hp, by simpa using hcommit, by simpa using hactive⟩
        · exact writeBank_canonical e _ hp h
        · simp [Store.opFrom, hfop]
      · exact SideStep.refl d
    · exact SideStep.refl d
  · exact SideStep.refl d

theorem copyMany_step (n : Nat) : ∀ d : SideState, SideStep d (SideState.copyMany n d) := by
  induction n with
  | zero => exact SideStep.refl
  | succ n ih => exact fun d => (copyNext_step d).trans (ih _)

/-! ### The check (R59) -/

theorem checkNext_step : SideStep d { d with store := d.store.checkNext } := by
  unfold Store.checkNext
  split
  · rename_i op hop
    split
    · split
      · rename_i hp
        refine ⟨⟨id, id, id, fun ⟨htables, hparity, hsize, hops⟩ => ⟨htables, hparity, hsize, fun op' ho => ?_⟩, id, id⟩,
          rfl, rfl, fun z => ?_, rfl, rfl⟩
        · obtain ⟨-, hcommit, hactive⟩ := hops op hop
          obtain rfl := Option.some.inj ho
          exact ⟨hp, hcommit, hactive⟩
        · simp [Store.opFrom, hop, Store.checkStep]
      · exact SideStep.refl d
    · exact SideStep.refl d
  · exact SideStep.refl d

end

end Sys2Proof.Invariants
end

section
/-! A change that no evaluation reads commutes with it. -/

namespace Sys2Proof.Guarding

open Sys2Proof Sys2Proof.Machine

/-- A change of the part that neither reads nor touches what an evaluation of side x reads and writes. -/
structure Unread (x : Side) (change : State → State) : Prop where
  guard : ∀ (s : State) (f : Guard → Guard), change (s.onSide x fun d => { d with guard := f d.guard }) =
    (change s).onSide x fun d => { d with guard := f d.guard }
  judge : ∀ s, change (s.onSide x SideState.judgeGroups) = (change s).onSide x SideState.judgeGroups
  report : ∀ s, change (markReports s x) = markReports (change s) x
  fault : ∀ s, change (judgeFault s) = judgeFault (change s)
  warn : ∀ s, change (warnPulseStart s) = warnPulseStart (change s)
  reads : ∀ s, ((change s).side x).guard = (s.side x).guard ∧ ((change s).side x).groups = (s.side x).groups ∧
    ((change s).side x).cond = (s.side x).cond ∧ ((change s).side x).settings = (s.side x).settings

section
variable {x : Side} {change : State → State}

theorem Unread.setGuard (h : Unread x change) (s : State) (st : GuardState) (m c : Nat) :
    change (setGuard s x st m c) = setGuard (change s) x st m c := by
  have hset := h.guard s fun g => { g with state := st, m := m, countdown := c }
  unfold Machine.setGuard
  dsimp only
  rw [(h.reads s).1]
  split
  · exact hset
  · rw [h.report, hset]

theorem Unread.trip (h : Unread x change) (s : State) : change (trip s x) = trip (change s) x := by
  obtain ⟨hguard, -, hcond, -⟩ := h.reads s
  unfold Machine.trip
  dsimp only
  rw [hguard, hcond]
  split
  · split <;> rw [h.warn, h.setGuard]
  · split <;> rw [h.warn, h.setGuard]
  · rw [h.warn, h.setGuard]
  all_goals rfl

theorem Unread.judgeRestoration (h : Unread x change) (s : State) :
    change (judgeRestoration s x) = judgeRestoration (change s) x := by
  obtain ⟨hguard, -, -, hset⟩ := h.reads s
  unfold Machine.judgeRestoration startRestoration
  dsimp only
  rw [hguard, hset]
  split
  · split <;> rw [h.setGuard]
  · rfl

theorem Unread.judgeReady (h : Unread x change) (s : State) : change (judgeReady s x) = judgeReady (change s) x := by
  obtain ⟨hguard, hgroups, -, -⟩ := h.reads s
  have hready := h.guard s fun g => { g with ready := (s.side x).groups.restoreReady }
  unfold Machine.judgeReady
  dsimp only
  rw [hguard, hgroups]
  split
  · rw [h.judgeRestoration]
    exact congrArg (Machine.judgeRestoration · x) hready
  · exact hready

theorem Unread.evaluateFrom (h : Unread x change) (s : State) (old : Groups) :
    change (evaluateFrom s x old) = evaluateFrom (change s) x old := by
  have hjudged : ∀ b : Bool, change (if b then markReports (s.onSide x SideState.judgeGroups) x
      else s.onSide x SideState.judgeGroups) =
      if b then markReports ((change s).onSide x SideState.judgeGroups) x
      else (change s).onSide x SideState.judgeGroups := fun b => by
    cases b
    · exact h.judge s
    · exact (h.report _).trans (by rw [h.judge s]; rfl)
  have hgroups : (((change s).onSide x SideState.judgeGroups).side x).groups =
      ((s.onSide x SideState.judgeGroups).side x).groups := by
    rw [← h.judge, (h.reads _).2.1]
  unfold Machine.evaluateFrom actOnGroups
  dsimp only
  rw [hgroups]
  split
  · rw [h.trip, h.judgeReady, h.fault, hjudged]
  · rw [h.judgeReady, h.fault, hjudged]

/-- The settling of a command's changes commutes with a change that it does not read. -/
theorem Unread.settle (h : Unread x change) (s : State) (before : Conditions) :
    change (settle s x before) = settle (change s) x before := by
  obtain ⟨-, hgroups, hcond, -⟩ := h.reads s
  unfold Machine.settle evaluate
  rw [hcond, hgroups]
  split
  · rfl
  · exact h.evaluateFrom s _

end

/-- An evaluation reads and writes no more of a link than its report-pending flags. -/
theorem unread_onLink (x z : Side) {h : LinkState → LinkState}
    (hh : ∀ l : LinkState, h (l.setReport x true) = (h l).setReport x true) : Unread x (State.onLink · z h) := by
  refine ⟨fun s f => onLink_onSide s x z _ h |>.symm ▸ rfl, fun s => onLink_onSide s x z _ h |>.symm ▸ rfl, fun s => ?_,
    fun s => ?_, fun s => ?_, fun s => ?_⟩
  · cases z <;> simp [markReports, State.onLink, hh]
  · cases z <;> rfl
  · unfold warnPulseStart
    rw [onLink_warn]
    split <;> cases z <;> rfl
  · simp only [onLink_side, and_self]

/-- An evaluation reads neither the source nor whether a standalone frame start is due. -/
theorem unread_goStandalone (x : Side) : Unread x (State.onSide · x SideState.goStandalone) := by
  refine ⟨fun s f => ?_, fun s => ?_, fun s => ?_, fun s => ?_, fun s => ?_, fun s => ?_⟩
  · cases x <;> rfl
  · cases x <;> rfl
  · cases x <;> rfl
  · cases x <;> rfl
  · unfold warnPulseStart
    rw [onSide_warn]
    split <;> cases x <;> rfl
  · rw [onSide_side_same]
    exact ⟨rfl, rfl, rfl, rfl⟩

end Sys2Proof.Guarding
end

section
/-! What each operation on the part keeps of the invariants. -/

namespace Sys2Proof.Invariants

open Sys2Proof Sys2Proof.Machine Sys2Proof.Guarding

/-! ## The egress side (R172 to R175) -/

section
variable {s t : State} {x : Side}

theorem kick_sound (s : State) (x : Side) : Sound s (kick s x) := (kick_change s x x).sound (by rw [kick_side])

theorem handFollowEnd_sound (s : State) (x : Side) : Sound s (handFollowEnd s x) :=
  (Sound.onLink (LinkStep.lane id)).trans (kick_sound _ x)

theorem beginEgressFrame_change (s : State) (x : Side) (src : Source) (w h : Nat) (colour : Rgb) :
    Change x s (beginEgressFrame s x src w h colour) :=
  (Change.onLink (LinkStep.lane id)).trans (kick_change _ x x)

theorem beginEgressFrame_sound (s : State) (x : Side) (src : Source) (w h : Nat) (colour : Rgb) :
    Sound s (beginEgressFrame s x src w h colour) :=
  (Sound.onLink (LinkStep.lane id)).trans (kick_sound _ x)

theorem enterBuffer_sound (hr : (s.link x).hasRoom = true) (line : OutLine) : Sound s (enterBuffer s x line) :=
  (enterBuffer_change (x := x) x hr line).sound (by rw [enterBuffer, kick_side, onLink_side])

theorem deliver_sound (s : State) (x : Side) (line : OutLine) (after : After) : Sound s (deliver s x line after) := by
  unfold deliver
  split
  · rename_i hr
    exact enterBuffer_sound hr line
  · exact Sound.onSide (setWaiting_step _ _) rfl

theorem deliverWaiting_sound (hr : (s.link x).hasRoom = true) (line : OutLine) : Sound s (deliverWaiting s x line) :=
  (Sound.onSide (setWaiting_step _ _) rfl).trans (enterBuffer_sound (by rw [onSide_link]; exact hr) line)

/-! ## Lines (R10, R17, R21, R67) -/

theorem fillLines_sound (after : Nat → After) : ∀ (count y : Nat) (s : State), Sound s (fillLines x after count y s)
  | 0, _, s => Sound.refl s
  | count + 1, y, s => by
    have h1 : Sound s (deliver (s.onSide x fun d => (d.fillLine y).1) x ((s.side x).fillLine y).2 (after (y + 1))) :=
      (Sound.onSide (fillLine_step _ y) rfl).trans (deliver_sound _ x _ _)
    rw [fillLines]
    split
    · exact h1
    · exact h1.trans (fillLines_sound after count (y + 1) _)

theorem fillThen_sound {finish : State → State} (hf : ∀ t, Sound t (finish t)) (s : State) (after : Nat → After)
    (y stop : Nat) : Sound s (fillThen s x after y stop finish) := by
  unfold fillThen
  dsimp only
  split
  · exact fillLines_sound after _ y s
  · exact (fillLines_sound after _ y s).trans (hf _)

theorem deliverRemainder_sound (x : Side) : ∀ (count : Nat) (r : Remainder) (s : State),
    Sound s (deliverRemainder x count r s)
  | 0, _, s => Sound.refl s
  | count + 1, r, s => by
    rw [deliverRemainder]
    split
    · exact deliver_sound s x _ _
    · exact (deliver_sound s x _ _).trans (deliverRemainder_sound x count _ _)

theorem handLast_sound {own : SideState × OutLine} (h : SideStep (s.side x) own.1)
    (hc : own.1.cond = (s.side x).cond) : Sound s (handLast s x own) :=
  (Sound.onSide (f := fun _ => own.1) h hc).trans (deliver_sound _ x _ _)

theorem endAbandoned_sound (s : State) (x : Side) : Sound s (endAbandoned s x) :=
  (Sound.onSide ((discardGathering_step _).trans (setRecv_step _ _)) rfl).trans (handFollowEnd_sound _ x)

theorem abandonFrame_sound (s : State) (x : Side) : Sound s (abandonFrame s x) := by
  unfold abandonFrame
  dsimp only
  split
  · exact (fillLines_sound _ _ _ s).trans (endAbandoned_sound _ x)
  · exact Sound.refl s

/-! ## Frame ends and frame starts (R4 to R7, R17 to R20, R61, R213, R214) -/

theorem endFrame_sound (s : State) (x : Side) : Sound s (endFrame s x) :=
  ((Change.onSide (closeFrame_step _)).settle.trans (guardFrameEnd_sound _ x)).trans (handFollowEnd_sound _ x)

theorem swapIfPending_sound (s : State) (x : Side) : Sound s (swapIfPending s x) := by
  unfold swapIfPending
  split
  · exact ((Change.onSide (swap_step _)).trans (markReports_change x x _)).settle
  · exact Sound.refl s

theorem startEgress_sound (s : State) (x : Side) (src : Source) (w h : Nat) (colour : Rgb) :
    Sound s (startEgress s x src w h colour) :=
  ((guardStep_sound s x).trans (Sound.onSide (takeInUse_step _) rfl)).trans (beginEgressFrame_sound _ x src w h colour)

theorem acceptFrame_sound (hc : Change x s t) (ha : (t.side x).store.active.isSome = true) (number : Byte)
    (values : FrameValues) : Sound s (acceptFrame t x (s.side x).cond number values) :=
  ((hc.trans (Change.onSide (accept_step _ _ _ _ ha))).trans (Change.onLink (LinkStep.lane id))).settle.trans
    (startEgress_sound _ x _ _ _ _)

theorem judgeStart_sound (s : State) (x : Side) (body : List Byte) : Sound s (judgeStart s x body) := by
  unfold judgeStart
  dsimp only
  split
  · exact Sound.onSide (setRecv_step _ _) rfl
  · rename_i i hactive
    have ha : (s.side x).store.active.isSome = true := by rw [hactive]; rfl
    have htake : Change x s (s.onSide x SideState.takeDevelop) := Change.onSide (takeDevelop_step _ ha)
    split
    · refine acceptFrame_sound htake ?_ _ _
      rw [onSide_side_same, takeDevelop_frame]
      exact ha
    · exact (htake.trans (Change.onSide (rejectFormat_step _))).settle

theorem startStandalone_sound (s : State) (x : Side) : Sound s (startStandalone s x) :=
  (((swapIfPending_sound s x).trans (Sound.onSide (SideStep.data id id id) rfl)).trans
    ((guardStep_sound _ x).trans (Sound.onSide (takeInUse_step _) rfl))).trans
    ((Change.onSide (takeStandalone_step _)).trans (beginEgressFrame_change _ x _ _ _ _)).settle

/-! ## The camera link -/

theorem finishCell_sound (s : State) (x : Side) (c : CameraCell) : Sound s (finishCell s x c) := by
  unfold finishCell
  split
  · exact handLast_sound (ownLine_step _ _) rfl
  · exact endFrame_sound s x
  · exact ((endFrame_sound s x).trans (swapIfPending_sound _ x)).trans (judgeStart_sound _ x _)
  · exact Sound.refl s

theorem handleFrom_sound (s : State) (x : Side) (c : CameraCell) (y : Nat) : Sound s (handleFrom s x c y) :=
  fillThen_sound (fun t => finishCell_sound t x c) s _ y _

theorem takeFrameStart_sound (s : State) (x : Side) (body : List Byte) : Sound s (takeFrameStart s x body) := by
  unfold takeFrameStart
  split
  · split
    · exact handleFrom_sound s x _ _
    · exact (swapIfPending_sound s x).trans (judgeStart_sound _ x body)
  · exact Sound.refl s

theorem damagedLine_cond (d : SideState) (body : List Byte) : (d.damagedLine body).1.cond = d.cond := by
  unfold SideState.damagedLine
  split <;> rfl

theorem takeLine_sound (s : State) (x : Side) (body : List Byte) : Sound s (takeLine s x body) := by
  have hcount : Sound s (s.onSide x SideState.countDiscarded) := Sound.onSide (countDiscarded_step _) rfl
  unfold takeLine
  dsimp only
  split
  · exact Sound.refl s
  · split
    · exact hcount
    · split
      · split
        · exact hcount
        · exact handleFrom_sound s x _ _
      · exact handLast_sound (damagedLine_step _ body) (damagedLine_cond _ body)

theorem takeFrameEnd_sound (s : State) (x : Side) (body : List Byte) : Sound s (takeFrameEnd s x body) := by
  unfold takeFrameEnd
  split
  · split
    · exact handleFrom_sound s x _ _
    · exact Sound.onSide (setRecv_step _ _) rfl
    · exact Sound.refl s
  · exact Sound.refl s

theorem takeCell_sound (s : State) (x : Side) (c : CameraCell) : Sound s (takeCell s x c) := by
  unfold takeCell
  split
  · exact takeFrameStart_sound s x _
  · exact takeLine_sound s x _
  · exact takeFrameEnd_sound s x _
  · exact (Change.onSide (statusCell_step _ _)).settle

theorem arrive_sound (s : State) (x : Side) (c : CameraCell) : Sound s (arrive s x c) := by
  unfold arrive
  split
  · exact Sound.onSide (SideStep.data id id id) rfl
  · exact takeCell_sound s x c

theorem arriveAll_sound (x : Side) : ∀ (cells : List CameraCell) (s : State), Sound s (arriveAll s x cells)
  | [], s => Sound.refl s
  | c :: rest, s => (arrive_sound s x c).trans (arriveAll_sound x rest _)

theorem takeHeld_sound (s : State) (x : Side) : Sound s (takeHeld s x) :=
  (Sound.onSide (releaseHeld_step _) rfl).trans (arriveAll_sound x _ _)

/-! ## The frame timeout (R34, R215) -/

/-- What the expiry makes of a side: the link is lost and the source is STANDALONE. -/
theorem loseLink_step (d : SideState) : SideStep d d.loseLink.goStandalone :=
  ⟨⟨id, fun _ => ⟨⟨nofun, fun ⟨_, h⟩ => nomatch h⟩, nofun, rfl⟩, id, id, id, id⟩, rfl, rfl, fun _ => rfl, rfl, rfl⟩

theorem linkLost_sound (s : State) (x : Side) : Sound s (linkLost s x) := by
  have hcomm := (unread_goStandalone x).settle (s.onSide x SideState.loseLink) (s.side x).cond
  rw [linkLost, hcomm, onSide_onSide]
  exact (Change.onSide (loseLink_step _)).settle

theorem expireFrom_sound (s : State) (x : Side) (y : Nat) : Sound s (expireFrom s x y) :=
  fillThen_sound (fun t => (endAbandoned_sound t x).trans (linkLost_sound _ x)) s _ y _

theorem expireFrameTimeout_sound (s : State) (x : Side) : Sound s (expireFrameTimeout s x) := by
  unfold expireFrameTimeout
  split
  · exact expireFrom_sound s x _
  · exact linkLost_sound s x

end

end Sys2Proof.Invariants
end

section
/-! How full the response queues are: no operation but a response and the beginning of a copy or a check lengthens one. -/

namespace Sys2Proof.Invariants

open Sys2Proof Sys2Proof.Machine Sys2Proof.Guarding

/-- No response queue is longer than it was. -/
def Narrow (s t : State) : Prop := ∀ z, (t.link z).responses.length ≤ (s.link z).responses.length

section
variable {s t u : State} {x : Side}

theorem Narrow.refl (s : State) : Narrow s s := fun _ => Nat.le_refl _

theorem Narrow.trans (h : Narrow s t) (k : Narrow t u) : Narrow s u := fun z => (k z).trans (h z)

theorem Narrow.of_beside (h : t.besideSupervision x = s.besideSupervision x) : Narrow s t := fun z => by
  obtain ⟨a, b, hl⟩ := beside_link h z
  rw [hl]

theorem Narrow.onSide (s : State) (x : Side) (f : SideState → SideState) : Narrow s (s.onSide x f) := fun z => by
  rw [onSide_link]

theorem Narrow.onLink {f : LinkState → LinkState} (h : (f (s.link x)).responses.length ≤ (s.link x).responses.length) :
    Narrow s (s.onLink x f) :=
  onLink_forall (P := fun l m => m.responses.length ≤ l.responses.length) (fun _ => Nat.le_refl _) h

theorem nextFrameCell_responses (l : LinkState) : l.nextFrameCell.responses = l.responses := by
  unfold LinkState.nextFrameCell
  repeat' split
  all_goals rfl

theorem arbiter_narrow {l m : LinkState} (h : arbiter s l = some m) : m.responses.length ≤ l.responses.length := by
  unfold arbiter LinkState.sendResponse at h
  split at h
  · rw [← Option.some.inj h]
  · split at h
    · rw [← Option.some.inj h]
    · split at h
      · rename_i hhead
        rw [← Option.some.inj h, hhead, List.length_cons]
        exact Nat.le_succ _
      · cases h

theorem chooseCell_narrow (s : State) (l : LinkState) : (chooseCell s l).responses.length ≤ l.responses.length := by
  unfold chooseCell
  split
  · rw [nextFrameCell_responses]
  · split
    · rw [nextFrameCell_responses]
    · split
      · rename_i h
        have hle := arbiter_narrow h
        exact hle
      · rw [nextFrameCell_responses]

theorem kick_narrow (s : State) (x : Side) : Narrow s (kick s x) := by
  unfold kick
  split
  · exact Narrow.onLink (chooseCell_narrow s _)
  · exact Narrow.refl s

theorem deliver_narrow (s : State) (x : Side) (line : OutLine) (after : After) : Narrow s (deliver s x line after) := by
  unfold deliver enterBuffer
  split
  · exact Narrow.trans (Narrow.onLink (Nat.le_refl _)) (kick_narrow _ x)
  · exact Narrow.onSide s x _

theorem fillLines_narrow (after : Nat → After) : ∀ (count y : Nat) (s : State), Narrow s (fillLines x after count y s)
  | 0, _, s => Narrow.refl s
  | count + 1, y, s => by
    have h1 : Narrow s (deliver (s.onSide x fun d => (d.fillLine y).1) x ((s.side x).fillLine y).2 (after (y + 1))) :=
      (Narrow.onSide s x _).trans (deliver_narrow _ x _ _)
    rw [fillLines]
    split
    · exact h1
    · exact h1.trans (fillLines_narrow after count (y + 1) _)

theorem abandonFrame_narrow (s : State) (x : Side) : Narrow s (abandonFrame s x) := by
  unfold abandonFrame
  dsimp only
  split
  · exact ((fillLines_narrow _ _ _ s).trans (Narrow.onSide _ x _)).trans
      (Narrow.trans (Narrow.onLink (Nat.le_refl _)) (kick_narrow _ x))
  · exact Narrow.refl s

theorem fillReserved_length (r : Response) : ∀ slots : List ResponseSlot, (fillReserved slots r).length = slots.length
  | [] => rfl
  | .reserved :: _ => rfl
  | .ready _ :: rest => congrArg (· + 1) (fillReserved_length r rest)

theorem abortOperation_narrow (s : State) (y : Side) : Narrow s (abortOperation s y) := by
  unfold abortOperation
  dsimp only
  split
  · exact Narrow.onSide s y _
  · exact Narrow.trans (Narrow.onLink (fillReserved_length _ _).le) (Narrow.onSide _ y _)

end

end Sys2Proof.Invariants
end

section
/-! What a reserved slot and the operation that it belongs to have to do with each other (R57, R60, R183, R184). -/

namespace Sys2Proof.Invariants

open Sys2Proof Sys2Proof.Machine Sys2Proof.Guarding

/-- The reserved slots of a list of response slots. -/
def reservedIn (slots : List ResponseSlot) : Nat := (slots.filter (· == .reserved)).length

theorem reservedIn_fill (r : Response) : ∀ slots : List ResponseSlot,
    reservedIn (fillReserved slots r) = reservedIn slots - 1
  | [] => rfl
  | .reserved :: rest => by simp [fillReserved, reservedIn, List.filter]
  | .ready q :: rest => by
    have hskip : ∀ slots : List ResponseSlot, reservedIn (.ready q :: slots) = reservedIn slots := fun slots =>
      congrArg List.length (List.filter_cons_of_neg Bool.false_ne_true)
    rw [fillReserved, hskip, hskip, reservedIn_fill r rest]

section
variable {s t : State} {x y : Side} {op : Operation} {r : Response}

/-- The operations taken from link z, once the operation of side x has ended, are one fewer if it was taken from z. -/
theorem opsFrom_end {f : SideState → SideState} (hop : (s.side x).store.op = some op)
    (hend : (f (s.side x)).store.op = none) (z : Side) :
    opsFrom (s.onSide x f) z + (decide (op.link = z)).toNat = opsFrom s z := by
  have hnone : (f (s.side x)).store.opFrom z = false := by rw [Store.opFrom, hend]
  have hsome : (s.side x).store.opFrom z = decide (op.link = z) := by rw [Store.opFrom, hop]
  cases x <;> simp only [State.side, opsFrom, State.onSide] at * <;> rw [hnone, hsome, Bool.toNat_false] <;> omega

/-- The operation of a side ends and its reserved slot takes the response (R57, R60). -/
theorem endOperation_change {f : SideState → SideState} (hk : SideKept (s.side x) (f (s.side x)))
    (hgroups : (f (s.side x)).groups = (s.side x).groups) (hguard : (f (s.side x)).guard = (s.side x).guard)
    (hfault : (f (s.side x)).cond.displayFault = (s.side x).cond.displayFault)
    (hmask : (f (s.side x)).settings.displayFaultMask = (s.side x).settings.displayFaultMask)
    (hop : (s.side x).store.op = some op) (hend : (f (s.side x)).store.op = none) :
    Change x s ((s.onSide x f).onLink op.link (·.fill r)) := by
  have hside : ∀ y, SideKept (s.side y) ((s.onSide x f).side y) ∧
      ((s.onSide x f).side y).groups = (s.side y).groups ∧ ((s.onSide x f).side y).guard = (s.side y).guard ∧
      ((s.onSide x f).side y).cond.displayFault = (s.side y).cond.displayFault ∧
      ((s.onSide x f).side y).settings.displayFaultMask = (s.side y).settings.displayFaultMask :=
    onSide_forall (P := fun d e => SideKept d e ∧ e.groups = d.groups ∧ e.guard = d.guard ∧
        e.cond.displayFault = d.cond.displayFault ∧ e.settings.displayFaultMask = d.settings.displayFaultMask)
      (fun d => ⟨SideKept.refl d, rfl, rfl, rfl, rfl⟩) ⟨hk, hgroups, hguard, hfault, hmask⟩
  have hlink : ∀ y, (s.link y).QueuesBounded → (((s.onSide x f).onLink op.link (·.fill r)).link y).QueuesBounded :=
    fun y => by
      have hall := onLink_forall (s := s.onSide x f) (x := op.link) (f := (·.fill r))
        (P := fun l m => l.QueuesBounded → m.QueuesBounded) (fun _ => id)
        (fun ⟨hq, hr, hb⟩ => ⟨hq, (fillReserved_length r _).trans_le hr, hb⟩) y
      rwa [onSide_link] at hall
  have hdisplay : ∀ y, (((s.onSide x f).onLink op.link (·.fill r)).link y).display = (s.link y).display := fun y => by
    have hall := onLink_forall (s := s.onSide x f) (x := op.link) (f := (·.fill r)) (P := fun l m => m.display = l.display)
      (fun _ => rfl) rfl y
    rwa [onSide_link] at hall
  have hreserved : ∀ y, (((s.onSide x f).onLink op.link (·.fill r)).link y).reservedSlots =
      (s.link y).reservedSlots - (decide (op.link = y)).toNat := fun y => by
    by_cases hy : y = op.link
    · subst hy
      rw [onLink_link_same, onSide_link, decide_eq_true rfl]
      exact reservedIn_fill r _
    · rw [onLink_link_other _ _ hy, onSide_link, decide_eq_false (Ne.symm hy)]
      rfl
  refine ⟨⟨by rw [onLink_pending, onSide_pending], fun y => ?_, hlink, fun y => ?_, fun y hs => ?_⟩, ?_, ?_, ?_,
    fun y => ?_, fun y => ?_, fun y hy => ?_⟩
  · rw [onLink_side]
    exact (hside y).1
  · obtain ⟨-, -, -, hf, hm⟩ := hside y
    exact displayJudged_congr (hdisplay y) (by rw [onLink_side, hf]) (by rw [onLink_side, hm])
  · obtain ⟨heq, hle⟩ := hs
    have hops := opsFrom_end (f := f) hop hend y
    have hsame : opsFrom ((s.onSide x f).onLink op.link (·.fill r)) y = opsFrom (s.onSide x f) y :=
      opsFrom_congr fun z => by rw [onLink_side]
    rw [SlotsAccounted, hreserved, hsame]
    omega
  · rw [onLink_fault, onSide_fault]
  · rw [onLink_warn, onSide_warn]
  · rw [onLink_warnTimer, onSide_warnTimer]
  · rw [onLink_side, (hside y).2.1]
  · rw [onLink_side, (hside y).2.2.1]
  · rw [onLink_side, onSide_side_other _ _ hy]

theorem endOp_kept (d : SideState) : SideKept d d.endOp :=
  ⟨id, id, id, fun ⟨htables, hparity, hsize, _⟩ => ⟨htables, hparity, hsize, nofun⟩, id, id⟩

/-- An operation begins on a link from which none is in flight, and its slot stays reserved (R55, R58). -/
theorem beginOperation_sound {kind : OpKind} (hfree : opsFrom s x = 0) (hroom : (s.link x).responses.length < 8)
    (hidle : (s.side y).store.busy = false) (hactive : kind = .copy → (s.side y).store.active.isSome = true) :
    Sound s (beginOperation s x y kind) := by
  rw [Store.busy, Bool.or_eq_false_iff, Option.isSome_eq_false_iff, Option.isNone_iff_eq_none] at hidle
  obtain ⟨hop, hcommit⟩ := hidle
  have hkept : SideKept (s.side y) ((s.side y).beginOp kind x) := by
    refine ⟨id, id, id, fun ⟨htables, hparity, hsize, _⟩ => ⟨htables, hparity, hsize, fun op' ho => ?_⟩, id, id⟩
    obtain rfl := Option.some.inj ho
    exact ⟨Nat.zero_le _, hcommit, hactive⟩
  have hside : ∀ z, SideKept (s.side z) ((s.onSide y (·.beginOp kind x)).side z) :=
    onSide_forall SideKept.refl hkept
  have hsame : ∀ z, ((s.onSide y (·.beginOp kind x)).side z).cond = (s.side z).cond ∧
      ((s.onSide y (·.beginOp kind x)).side z).settings = (s.side z).settings ∧
      ((s.onSide y (·.beginOp kind x)).side z).groups = (s.side z).groups ∧
      ((s.onSide y (·.beginOp kind x)).side z).guard = (s.side z).guard :=
    onSide_forall (P := fun d e => e.cond = d.cond ∧ e.settings = d.settings ∧ e.groups = d.groups ∧ e.guard = d.guard)
      (fun _ => ⟨rfl, rfl, rfl, rfl⟩) ⟨rfl, rfl, rfl, rfl⟩
  have hops : ∀ z, opsFrom (s.onSide y (·.beginOp kind x)) z = opsFrom s z + (decide (x = z)).toNat := fun z => by
    have hnone : (s.side y).store.opFrom z = false := by rw [Store.opFrom, hop]
    cases y <;> simp only [State.side, opsFrom, State.onSide, SideState.beginOp] at * <;>
      rw [hnone, Bool.toNat_false] <;> simp only [Store.opFrom] <;> omega
  have hlink : ∀ z, ((beginOperation s x y kind).link z).display = (s.link z).display ∧
      ((s.link z).QueuesBounded → ((beginOperation s x y kind).link z).QueuesBounded) ∧
      ((beginOperation s x y kind).link z).reservedSlots = (s.link z).reservedSlots + (decide (x = z)).toNat := fun z => by
    unfold beginOperation
    by_cases hz : z = x
    · subst hz
      rw [onLink_link_same, onSide_link, decide_eq_true rfl]
      refine ⟨rfl, fun ⟨hq, _, hb⟩ => ⟨hq, ?_, hb⟩, ?_⟩
      · rw [LinkState.reserve, List.length_append]
        exact hroom
      · simp [LinkState.reserve, LinkState.reservedSlots, List.filter_append, List.filter]
    · rw [onLink_link_other _ _ hz, onSide_link, decide_eq_false (Ne.symm hz)]
      exact ⟨rfl, id, rfl⟩
  have hchange : Change y s (beginOperation s x y kind) := by
    refine ⟨⟨?_, fun z => ?_, fun z => (hlink z).2.1, fun z => ?_, fun z hs => ?_⟩, ?_, ?_, ?_, fun z => ?_, fun z => ?_,
      fun z _ => ?_⟩
    · rw [beginOperation, onLink_pending, onSide_pending]
    · rw [beginOperation, onLink_side]
      exact hside z
    · exact displayJudged_congr (hlink z).1 (by rw [beginOperation, onLink_side, (hsame z).1])
        (by rw [beginOperation, onLink_side, (hsame z).2.1])
    · obtain ⟨heq, hle⟩ := hs
      have hsum : opsFrom (beginOperation s x y kind) z = opsFrom s z + (decide (x = z)).toNat :=
        (opsFrom_congr fun w => by rw [beginOperation, onLink_side]).trans (hops z)
      rw [SlotsAccounted, (hlink z).2.2, hsum, heq]
      refine ⟨rfl, ?_⟩
      by_cases hz : x = z
      · subst hz
        rw [hfree, decide_eq_true rfl]
        exact Nat.le_refl 1
      · rw [decide_eq_false hz]
        exact hle
    · rw [beginOperation, onLink_fault, onSide_fault]
    · rw [beginOperation, onLink_warn, onSide_warn]
    · rw [beginOperation, onLink_warnTimer, onSide_warnTimer]
    all_goals rw [beginOperation, onLink_side]
    · exact (hsame z).2.2.1
    · exact (hsame z).2.2.2
    · exact (hsame z).1
  exact hchange.sound (by rw [beginOperation, onLink_side, (hsame y).1])

end

end Sys2Proof.Invariants
end

section
/-! The settings that a WRITE SETTINGS stores, as one change of the side (R191 to R193). -/

namespace Sys2Proof.SettingsStore

open Sys2Proof Sys2Proof.Machine

/-- Settings 0 to 19 after the values of a request have been stored from the first number on. -/
def storedSettings (k : Settings) : Nat → List Word → Settings
  | _, [] => k
  | n, v :: vs => storedSettings (if n < 20 then k.write n v else k) (n + 1) vs

/-- The groups after the values of a request have been stored. -/
def storedGroups (g : Groups) : Nat → List Word → Groups
  | _, [] => g
  | n, v :: vs =>
    storedGroups (if n < 20 then g else if n < 32 then g.onNth ((n - 20) / 3) fun h => h.write ((n - 20) % 3) v else g)
      (n + 1) vs

/-- WarnPulseWidth after the values of a request have been stored. -/
def storedWidth (w : Nat) : Nat → List Word → Nat
  | _, [] => w
  | n, v :: vs => storedWidth (if n < 32 then w else toRange 100 5000 v) (n + 1) vs

/-- A side with other settings and other group settings. -/
def withSettings (k : Settings) (g : Groups) (d : SideState) : SideState := { d with settings := k, groups := g }

/-- The part with other settings of a side and another WarnPulseWidth. -/
def storeAs (s : State) (x : Side) (k : Settings) (g : Groups) (w : Nat) : State :=
  { s.onSide x (withSettings k g) with warnPulseWidth := w }

theorem storeAs_storeAs (s : State) (x : Side) (k k' : Settings) (g g' : Groups) (w w' : Nat) :
    storeAs (storeAs s x k g w) x k' g' w' = storeAs s x k' g' w' := by
  cases x <;> rfl

/-- The values of a request are stored in the settings of the side, in its groups and in WarnPulseWidth (R191). -/
theorem storeSettings_eq (x : Side) : ∀ (vs : List Word) (n : Nat) (s : State),
    storeSettings s x n vs =
      storeAs s x (storedSettings (s.side x).settings n vs) (storedGroups (s.side x).groups n vs)
        (storedWidth s.warnPulseWidth n vs)
  | [], n, s => by cases x <;> rfl
  | v :: vs, n, s => by
    have hone : storeSetting s x n v =
        storeAs s x (if n < 20 then (s.side x).settings.write n v else (s.side x).settings)
          (if n < 20 then (s.side x).groups
            else if n < 32 then (s.side x).groups.onNth ((n - 20) / 3) fun h => h.write ((n - 20) % 3) v
            else (s.side x).groups)
          (if n < 32 then s.warnPulseWidth else toRange 100 5000 v) := by
      unfold storeSetting
      by_cases h20 : n < 20
      · rw [if_pos h20, if_pos h20, if_pos h20, if_pos (by omega)]
        cases x <;> rfl
      · by_cases h32 : n < 32
        · rw [if_neg h20, if_neg h20, if_neg h20, if_pos h32, if_pos h32, if_pos h32]
          cases x <;> rfl
        · rw [if_neg h20, if_neg h20, if_neg h20, if_neg h32, if_neg h32, if_neg h32]
          cases x <;> rfl
    rw [storeSettings, hone, storeSettings_eq x vs, storeAs_storeAs]
    cases x <;> rfl

section
variable {k : Settings} {n : Nat} {v : Word}

/-- A setting read by a judgement of the camera is changed by a write of its own number alone. -/
theorem write_camera (h10 : n ≠ 10) (h14 : n ≠ 14) :
    (k.write n v).cameraFaultMask = k.cameraFaultMask ∧ (k.write n v).tempLimit = k.tempLimit := by
  unfold Settings.write
  split <;> first | exact ⟨rfl, rfl⟩ | contradiction

theorem write_displayFaultMask (h15 : n ≠ 15) : (k.write n v).displayFaultMask = k.displayFaultMask := by
  unfold Settings.write
  split <;> first | rfl | contradiction

end

theorem storedSettings_camera : ∀ (vs : List Word) (n : Nat) (k : Settings),
    (writes n vs.length 10 || writes n vs.length 14) = false →
    (storedSettings k n vs).cameraFaultMask = k.cameraFaultMask ∧ (storedSettings k n vs).tempLimit = k.tempLimit
  | [], _, _, _ => ⟨rfl, rfl⟩
  | v :: vs, n, k, h => by
    simp only [writes, List.length_cons, Bool.or_eq_false_iff, Bool.and_eq_false_iff, decide_eq_false_iff_not] at h
    obtain ⟨hmask, htemp⟩ := storedSettings_camera vs (n + 1) (if n < 20 then k.write n v else k) (by
      simp only [writes, Bool.or_eq_false_iff, Bool.and_eq_false_iff, decide_eq_false_iff_not]
      omega)
    rw [storedSettings, hmask, htemp]
    split
    · exact write_camera (by omega) (by omega)
    · exact ⟨rfl, rfl⟩

theorem storedSettings_displayFaultMask : ∀ (vs : List Word) (n : Nat) (k : Settings),
    writes n vs.length 15 = false → (storedSettings k n vs).displayFaultMask = k.displayFaultMask
  | [], _, _, _ => rfl
  | v :: vs, n, k, h => by
    simp only [writes, List.length_cons, Bool.and_eq_false_iff, decide_eq_false_iff_not] at h
    rw [storedSettings, storedSettings_displayFaultMask vs (n + 1) _ (by
      simp only [writes, Bool.and_eq_false_iff, decide_eq_false_iff_not]
      omega)]
    split
    · exact write_displayFaultMask (by omega)
    · rfl

/-! ## The effects that follow (R194) -/

/-- DISPLAY_FAULT judged from a display status record (R181). -/
def judgedBy (record : DisplayRecord) (d : SideState) : SideState :=
  { d with
    cond := { d.cond with displayFault := record.silent || (record.faults &&& d.settings.displayFaultMask != 0) } }

/-- A side once the values of a request are stored and the reference and the camera have followed (R25, R33). -/
def writtenSide (d : SideState) (n : Nat) (vs : List Word) : SideState :=
  ((withSettings (storedSettings d.settings n vs) (storedGroups d.groups n vs) d).dividerEffect
    (writes n vs.length 3)).cameraEffect (writes n vs.length 10 || writes n vs.length 14)

/-- The side before the groups are evaluated: DISPLAY_FAULT has followed too. -/
def writtenAll (s : State) (x : Side) (n : Nat) (vs : List Word) : SideState :=
  if writes n vs.length 15 then judgedBy (s.link x).display (writtenSide (s.side x) n vs) else writtenSide (s.side x) n vs

/-- The part before the groups are evaluated. -/
def written (s : State) (x : Side) (n : Nat) (vs : List Word) : State :=
  { s.onSide x fun _ => writtenAll s x n vs with warnPulseWidth := storedWidth s.warnPulseWidth n vs }

theorem writeSettings_eq (s : State) (x : Side) (n : Nat) (vs : List Word) :
    writeSettings s x n vs =
      modeEffect (groupEffect (written s x n vs) x (s.side x).cond (s.side x).groups) x (s.side x).settings.restoreMode := by
  unfold writeSettings
  dsimp only
  rw [storeSettings_eq]
  refine congrArg (fun t => modeEffect (groupEffect t x _ _) x _) ?_
  unfold written writtenAll
  cases writes n vs.length 15 <;> cases x <;> rfl

section
variable (d : SideState) (n : Nat) (vs : List Word)

/-- A write changes the settings, the groups' settings, the timing record and three conditions of its side. -/
theorem writtenSide_frame :
    ∃ time fault high, writtenSide d n vs =
      { d with
        settings := storedSettings d.settings n vs, groups := storedGroups d.groups n vs, timing := time
        cond := { d.cond with cameraFault := fault, tempHigh := high } } := by
  unfold writtenSide
  cases writes n vs.length 3 <;> cases (writes n vs.length 10 || writes n vs.length 14) <;> exact ⟨_, _, _, rfl⟩

theorem writtenAll_frame (s : State) (x : Side) :
    ∃ time fault high display, writtenAll s x n vs =
      { s.side x with
        settings := storedSettings (s.side x).settings n vs, groups := storedGroups (s.side x).groups n vs
        timing := time
        cond := { (s.side x).cond with cameraFault := fault, tempHigh := high, displayFault := display } } := by
  obtain ⟨time, fault, high, h⟩ := writtenSide_frame (s.side x) n vs
  unfold writtenAll
  rw [h]
  split <;> exact ⟨_, _, _, _, rfl⟩

end

section
variable (s : State) (x y : Side) (n : Nat) (vs : List Word)

@[simp] theorem written_link : (written s x n vs).link y = s.link y := by cases x <;> cases y <;> rfl

@[simp] theorem written_side : (written s x n vs).side x = writtenAll s x n vs := by cases x <;> rfl

theorem written_side_other {x y : Side} (hy : y ≠ x) : (written s x n vs).side y = s.side y := by
  cases x <;> cases y <;> first | rfl | exact absurd rfl hy

end

end Sys2Proof.SettingsStore
end

section
/-! What each command keeps of the invariants. -/

namespace Sys2Proof.Invariants

open Sys2Proof Sys2Proof.Machine Sys2Proof.Guarding Sys2Proof.SettingsStore

/-- A command answers a next state in which every invariant is kept. -/
def Answers (s : State) (o : Host.Outcome State Fault Refusal) : Prop := ∃ t, o = .next t ∧ Sound s t

section
variable {s t u : State} {x y z : Side} {r : Request}

theorem Answers.next (h : Sound s t) : Answers s (.next t) := ⟨t, rfl, h⟩

theorem Answers.self (s : State) : Answers s (.next s) := ⟨s, rfl, Sound.refl s⟩

/-- A command that acts only while RESET is not held low, and only where its event can take place. -/
theorem Answers.ite {c : Prop} [Decidable c] {o p : Host.Outcome State Fault Refusal} (ho : c → Answers s o)
    (hp : ¬ c → Answers s p) : Answers s (if c then o else p) := by
  split
  · exact ho ‹_›
  · exact hp ‹_›

/-! ## WRITE SETTINGS (R191, R194) -/

theorem writtenSide_kept (d : SideState) (n : Nat) (vs : List Word) : SideKept d (writtenSide d n vs) := by
  have hdivider : ∀ (e : SideState) (b : Bool), e.dividerEffect b = { e with timing := (e.dividerEffect b).timing } :=
    fun e b => by cases b <;> rfl
  unfold writtenSide
  rw [hdivider]
  generalize SideState.timing _ = time
  cases hw : (writes n vs.length 10 || writes n vs.length 14) with
  | true => exact ⟨fun _ => ⟨rfl, rfl⟩, id, id, id, id, id⟩
  | false =>
    obtain ⟨hmask, htemp⟩ := storedSettings_camera vs n d.settings hw
    refine ⟨fun ⟨hfault, hhigh⟩ => ⟨?_, ?_⟩, id, id, id, id, id⟩
    · exact hfault.trans (congrArg (fun m => d.status.valid && (d.status.faults &&& m != 0)) hmask.symm)
    · exact hhigh.trans (congrArg (fun t => d.status.valid && decide (t < d.status.temperature.toInt)) htemp.symm)

theorem writtenAll_kept (s : State) (x : Side) (n : Nat) (vs : List Word) :
    SideKept (s.side x) (writtenAll s x n vs) := by
  refine (writtenSide_kept _ n vs).trans ?_
  unfold writtenAll
  split
  · exact ⟨id, id, id, id, id, id⟩
  · exact SideKept.refl _

theorem written_display (n : Nat) (vs : List Word) (h : DisplayJudged s x) : DisplayJudged (written s x n vs) x := by
  unfold DisplayJudged at *
  rw [written_side, written_link]
  unfold writtenAll
  cases hw : writes n vs.length 15 with
  | true => rfl
  | false =>
    obtain ⟨time, fault, high, hside⟩ := writtenSide_frame (s.side x) n vs
    have hmask := storedSettings_displayFaultMask vs n (s.side x).settings hw
    rw [if_neg Bool.false_ne_true, hside]
    dsimp only
    rw [h, hmask]

theorem written_kept (s : State) (x : Side) (n : Nat) (vs : List Word) : Kept s (written s x n vs) := by
  have hside : ∀ y, SideKept (s.side y) ((written s x n vs).side y) ∧
      ((written s x n vs).side y).store = (s.side y).store := fun y => by
    by_cases hy : y = x
    · subst hy
      rw [written_side]
      refine ⟨writtenAll_kept s y n vs, ?_⟩
      obtain ⟨_, _, _, _, h⟩ := writtenAll_frame n vs s y
      rw [h]
    · rw [written_side_other _ _ _ hy]
      exact ⟨SideKept.refl _, rfl⟩
  refine ⟨by cases x <;> rfl, fun y => (hside y).1, fun y => ?_, fun y h => ?_, fun y => ?_⟩
  · rw [written_link]
    exact id
  · by_cases hy : y = x
    · subst hy
      exact written_display n vs h
    · exact displayJudged_congr (by rw [written_link]) (by rw [written_side_other _ _ _ hy])
        (by rw [written_side_other _ _ _ hy]) h
  · exact slotsAccounted_congr (by rw [written_link]) (opsFrom_congr fun z => by rw [(hside z).2])

theorem written_guard (s : State) (x y : Side) (n : Nat) (vs : List Word) :
    ((written s x n vs).side y).guard = (s.side y).guard := by
  by_cases hy : y = x
  · subst hy
    obtain ⟨_, _, _, _, h⟩ := writtenAll_frame n vs s y
    rw [written_side, h]
  · rw [written_side_other _ _ _ hy]

theorem groupEffect_sound (s : State) (x : Side) (n : Nat) (vs : List Word) :
    Sound s (groupEffect (written s x n vs) x (s.side x).cond (s.side x).groups) := by
  have hkept := written_kept s x n vs
  have hwarn : (written s x n vs).warn = s.warn ∧ (written s x n vs).warnTimer = s.warnTimer ∧
      (written s x n vs).fault = s.fault := by cases x <;> exact ⟨rfl, rfl, rfl⟩
  unfold groupEffect
  split
  · rename_i h
    refine Change.sound ⟨hkept, hwarn.2.2, hwarn.1, hwarn.2.1, fun y => ?_, fun y => written_guard s x y n vs,
      fun y hy => by rw [written_side_other _ _ _ hy]⟩ h.1
    by_cases hy : y = x
    · rw [hy, h.2]
    · rw [written_side_other _ _ _ hy]
  · refine evaluateFrom_kept hkept (fun hw => ?_) (fun hg => ?_) (fun hg => ?_) fun y hy => ?_
    · rw [WarnTimed, hwarn.1, hwarn.2.1]
      exact hw
    · rw [written_guard]
      exact hg
    · rw [SideState.GuardShape, written_guard]
      exact hg
    · rw [written_side_other _ _ _ hy]
      exact ⟨rfl, rfl, rfl⟩

theorem writeSettings_sound (s : State) (x : Side) (n : Nat) (vs : List Word) : Sound s (writeSettings s x n vs) := by
  rw [writeSettings_eq]
  refine (groupEffect_sound s x n vs).trans ?_
  unfold modeEffect
  split
  · exact judgeRestoration_sound _ x
  · exact Sound.refl _

theorem modeEffect_beside (s : State) (x : Side) (mode : RestoreMode) :
    (modeEffect s x mode).besideSupervision x = s.besideSupervision x := by
  unfold modeEffect
  split
  · exact judgeRestoration_beside s x
  · rfl

theorem groupEffect_beside (s : State) (x : Side) (before : Conditions) (old : Groups) :
    (groupEffect s x before old).besideSupervision x = s.besideSupervision x := by
  unfold groupEffect
  split
  · rfl
  · exact evaluateFrom_beside s x old

theorem writeSettings_narrow (s : State) (x : Side) (n : Nat) (vs : List Word) : Narrow s (writeSettings s x n vs) := by
  have hwritten : Narrow s (written s x n vs) := fun z => by rw [written_link]
  rw [writeSettings_eq]
  exact hwritten.trans (Narrow.of_beside ((modeEffect_beside _ x _).trans (groupEffect_beside _ x _ _)))

/-! ## Requests (R183) -/

theorem canTake_of_headOf {k : RequestKind} (h : headOf s x k = some r) : CanTake s x r ∧ r.requestKind = k := by
  unfold headOf headRequest at h
  rw [Option.filter_eq_some_iff] at h
  obtain ⟨hhead, hkind⟩ := h
  split at hhead
  · cases hhead
  · rename_i hfree
    simp only [Bool.or_eq_true, not_or, Bool.not_eq_true, decide_eq_false_iff_not, Nat.not_le] at hfree
    exact ⟨⟨hfree.1.1, TableBanks.stalled_eq_false_iff.mp hfree.1.2, hfree.2, hhead⟩, of_decide_eq_true hkind⟩

theorem takeRequest_sound (s : State) (x : Side) : Sound s (takeRequest s x) := by
  refine Sound.onLink ⟨fun ⟨hq, hr, hb⟩ => ⟨?_, hr, hb⟩, rfl, rfl⟩
  rw [List.length_drop]
  exact (Nat.sub_le _ _).trans hq

theorem takeRequest_responses (s : State) (x z : Side) :
    ((takeRequest s x).link z).responses = (s.link z).responses :=
  onLink_forall (P := fun l m => m.responses = l.responses) (fun _ => rfl) rfl z

theorem takeRequest_opsFrom (s : State) (x z : Side) : opsFrom (takeRequest s x) z = opsFrom s z :=
  opsFrom_congr fun w => by rw [takeRequest, onLink_side]

/-- A response takes a free slot (R183). -/
theorem respond_sound (hroom : (s.link x).responses.length < 8) (a : Response) : Sound s (respond s x a) := by
  refine Sound.onLink ⟨fun ⟨hq, _, hb⟩ => ⟨hq, ?_, hb⟩, ?_, rfl⟩
  · rw [LinkState.answer, List.length_append]
    exact hroom
  · simp [LinkState.answer, LinkState.reservedSlots, List.filter_append, List.filter_cons_of_neg]

/-- What a request does, and then its response. -/
theorem Sound.respond (h : Sound s t) (hn : Narrow s t) (hroom : (s.link x).responses.length < 8) (a : Response) :
    Sound s (respond t x a) :=
  h.trans (respond_sound ((hn x).trans_lt hroom) a)

/-- A command that takes a request. -/
theorem taken_answers {k : RequestKind} {run : State → Side → Request → State}
    (h : ∀ t r, opsFrom t x = 0 → (t.link x).responses.length < 8 → r.requestKind = k → Sound t (run t x r)) :
    Answers s (taken s x k run) := by
  unfold taken
  split
  · exact Answers.self s
  · rename_i r hhead
    obtain ⟨⟨-, hfree, hroom, -⟩, hkind⟩ := canTake_of_headOf hhead
    exact Answers.next ((takeRequest_sound s x).trans
      (h _ r ((takeRequest_opsFrom s x x).trans hfree) (by rw [takeRequest_responses]; exact hroom) hkind))

theorem payloadHalves_length : ∀ (n : Nat) (p : List Byte), p.length = 2 * n → (payloadHalves p).length = n
  | 0, p, h => by rw [List.length_eq_zero_iff.mp h]; rfl
  | n + 1, [], h => nomatch h
  | n + 1, [_], h => by simp at h; omega
  | n + 1, _ :: _ :: rest, h =>
    congrArg (· + 1) (payloadHalves_length n rest (by simp only [List.length_cons] at h; omega))

section
variable (hroom : (s.link x).responses.length < 8)
include hroom

theorem refuse_sound (c : RefusalCode) : Sound s (refuse s x c) := respond_sound hroom _

theorem doRead_sound (r : Request) : Sound s (doRead s x r) := by
  unfold doRead
  split
  · exact refuse_sound hroom _
  · split
    · exact refuse_sound hroom _
    · split
      · dsimp only
        split
        · exact (Sound.onSide (SideStep.data id id id) rfl).respond (Narrow.onSide s _ _) hroom _
        · exact respond_sound hroom _
      · exact refuse_sound hroom _

theorem doWriteSettings_sound (r : Request) : Sound s (doWriteSettings s x r) := by
  unfold doWriteSettings
  split
  · exact refuse_sound hroom _
  · split
    · exact refuse_sound hroom _
    · split
      · exact (writeSettings_sound s _ _ _).respond (writeSettings_narrow s _ _ _) hroom _
      · exact refuse_sound hroom _

end

end

end Sys2Proof.Invariants
end

section
/-! What the requests, the timers, a restart and a reset keep of the invariants. -/

namespace Sys2Proof.Invariants

open Sys2Proof Sys2Proof.Machine Sys2Proof.Guarding

section
variable {s t u : State} {x y z : Side} {r : Request}

/-! ## Requests that act on the banks (R53 to R55, R58) -/

theorem tableOffset_add_le (t : Nat) (ht : t ≤ 5) : tableOffset t + tableLength t ≤ Config.bankWords := by
  have h : ∀ t < 6, tableOffset t + tableLength t ≤ Config.bankWords := by decide
  exact h t (by omega)

theorem writeShadow_step (d : SideState) {w : Nat} {values : List Half} (h : w + values.length ≤ Config.bankWords) :
    SideStep d (d.writeShadow w values) := by
  refine ⟨⟨id, fun hl => ?_, fun hc => ?_, fun hb => ?_, fun hc => ?_, id⟩, rfl, rfl, fun z => ?_, rfl, rfl⟩
  · simpa [SideState.LinkSound, SideState.writeShadow] using hl
  · simpa [SideState.CountsSound, SideState.writeShadow] using hc
  · simpa [SideState.BankSound, SideState.writeShadow] using hb
  · obtain ⟨h0, h1⟩ := hc
    unfold SideState.writeShadow
    cases d.store.shadow
    · exact ⟨Bank.writeMany_wf h h0, h1⟩
    · exact ⟨h0, Bank.writeMany_wf h h1⟩
  · simp [Store.opFrom, SideState.writeShadow]

theorem strike_step (d : SideState) (i : BankId) (w : Fin 706) (v : Half) :
    SideStep d { d with store := d.store.onBank i fun b => b.strike w.val v } := by
  refine ⟨⟨id, fun hl => ?_, fun hc => ?_, fun hb => ?_, fun hc => ?_, id⟩, rfl, rfl, fun z => ?_, rfl, rfl⟩
  · simpa [SideState.LinkSound] using hl
  · simpa [SideState.CountsSound] using hc
  · simpa [SideState.BankSound] using hb
  · obtain ⟨h0, h1⟩ := hc
    cases i
    · exact ⟨Bank.strike_wf v w.isLt h0, h1⟩
    · exact ⟨h0, Bank.strike_wf v w.isLt h1⟩
  · simp [Store.opFrom]

section
variable (hroom : (s.link x).responses.length < 8)
include hroom

theorem doTableWrite_sound (r : Request) : Sound s (doTableWrite s x r) := by
  unfold doTableWrite
  split
  · exact refuse_sound hroom _
  · dsimp only
    split
    · exact refuse_sound hroom _
    · rename_i ht
      split
      · exact refuse_sound hroom _
      · rename_i hbad
        split
        · exact refuse_sound hroom _
        · simp only [Request.tableInRange, Bool.or_eq_true, Bool.not_eq_true', Bool.and_eq_false_iff,
            decide_eq_true_eq, decide_eq_false_iff_not, not_or, not_not] at hbad
          obtain ⟨⟨⟨-, -⟩, hrange⟩, hlength⟩ := hbad
          have hlen := payloadHalves_length r.count.toNat r.payload hlength
          have hfits := tableOffset_add_le r.id.toNat (by omega)
          exact (Sound.onSide (writeShadow_step _ (by omega)) rfl).respond (Narrow.onSide s _ _) hroom _

theorem doTableRead_sound (r : Request) : Sound s (doTableRead s x r) := by
  unfold doTableRead
  split
  · exact refuse_sound hroom _
  · dsimp only
    split
    · exact refuse_sound hroom _
    · split
      · exact refuse_sound hroom _
      · split
        · exact respond_sound hroom _
        · split
          · exact refuse_sound hroom _
          · exact (Change.onSide (findFailed_step _ _)).settle.respond
              ((Narrow.onSide s _ _).trans (Narrow.of_beside (settle_beside _ _ _))) hroom _

variable (hfree : opsFrom s x = 0)
include hfree

theorem doCopyBank_sound (r : Request) : Sound s (doCopyBank s x r) := by
  unfold doCopyBank
  split
  · exact refuse_sound hroom _
  · split
    · exact refuse_sound hroom _
    · rename_i hactive
      split
      · exact refuse_sound hroom _
      · rename_i hbusy
        exact beginOperation_sound hfree hroom (Bool.eq_false_iff.mpr hbusy) fun _ => by rw [hactive]; rfl

theorem doCommitBank_sound (r : Request) : Sound s (doCommitBank s x r) := by
  unfold doCommitBank
  split
  · exact refuse_sound hroom _
  · split
    · exact refuse_sound hroom _
    · rename_i hbusy
      exact beginOperation_sound hfree hroom (Bool.eq_false_iff.mpr hbusy) nofun

end

/-! ## Requests that act on supervision and on the command lane (R125, R131, R141, R146, R161) -/

theorem acknowledge_judged (g : Groups) (sel : Byte) (v : Half) (h : ∀ k ∈ g.list, k.nonconforming = k.mismatch v) :
    ∀ k ∈ (g.acknowledge sel).list, k.nonconforming = k.mismatch v := by
  simpa [Groups.list, Groups.acknowledge, Group.acknowledge, Group.mismatch] using h

/-- The event flags of a side are cleared and FAULT is judged (R141). -/
theorem acknowledge_sound (s : State) (o : Option Side) (sel : Byte) :
    Sound s (judgeFault (acknowledgeNotice (acknowledgeSide s o sel) sel)) := by
  have hside : ∀ z, (judgeFault (acknowledgeNotice (acknowledgeSide s o sel) sel)).side z =
      (acknowledgeSide s o sel).side z := fun z => by cases z <;> rfl
  have hlink : ∀ z, (judgeFault (acknowledgeNotice (acknowledgeSide s o sel) sel)).link z = s.link z := fun z => by
    cases o with
    | none => cases z <;> rfl
    | some y => cases y <;> cases z <;> rfl
  have hall : ∀ z, ((acknowledgeSide s o sel).side z).groups = (s.side z).groups ∧
        (acknowledgeSide s o sel).side z = s.side z ∨
      (acknowledgeSide s o sel).side z =
        { s.side z with groups := (s.side z).groups.acknowledge sel } := fun z => by
    cases o with
    | none => exact .inl ⟨rfl, rfl⟩
    | some y =>
      by_cases hz : z = y
      · subst hz
        exact .inr (onSide_side_same _ _ _)
      · exact .inl ⟨by rw [acknowledgeSide, onSide_side_other _ _ hz], onSide_side_other _ _ hz⟩
  have hkept : ∀ z, SideKept (s.side z) ((acknowledgeSide s o sel).side z) ∧
      ((acknowledgeSide s o sel).side z).store = (s.side z).store ∧
      ((acknowledgeSide s o sel).side z).settings = (s.side z).settings ∧
      ((acknowledgeSide s o sel).side z).guard = (s.side z).guard ∧
      ((acknowledgeSide s o sel).side z).cond = (s.side z).cond ∧
      ((acknowledgeSide s o sel).side z).groups.restoreReady = (s.side z).groups.restoreReady ∧
      ((s.side z).GroupsJudged → ((acknowledgeSide s o sel).side z).GroupsJudged) := fun z => by
    rcases hall z with ⟨-, h⟩ | h <;> rw [h]
    · exact ⟨SideKept.refl _, rfl, rfl, rfl, rfl, rfl, id⟩
    · exact ⟨⟨id, id, id, id, id, id⟩, rfl, rfl, rfl, rfl, rfl, acknowledge_judged _ sel _⟩
  have hwarn : (acknowledgeSide s o sel).warn = s.warn ∧ (acknowledgeSide s o sel).warnTimer = s.warnTimer ∧
      (acknowledgeSide s o sel).pending = s.pending := by
    cases o with
    | none => exact ⟨rfl, rfl, rfl⟩
    | some y => exact ⟨onSide_warn s y _, onSide_warnTimer s y _, onSide_pending s y _⟩
  obtain ⟨hw, htimer, hpending⟩ := hwarn
  refine ⟨⟨hpending, fun z => ?_, fun z => ?_, fun z => ?_, fun z => ?_⟩, fun _ => ?_, fun h => ?_, fun z h => ?_,
    fun z h => ?_, fun z h => ?_⟩
  · rw [hside]
    exact (hkept z).1
  · rw [hlink]
    exact id
  · obtain ⟨-, -, hset, -, hcond, -⟩ := hkept z
    exact displayJudged_congr (by rw [hlink]) (by rw [hside, hcond]) (by rw [hside, hset])
  · exact slotsAccounted_congr (by rw [hlink]) (opsFrom_congr fun w => by rw [hside, (hkept w).2.1])
  · exact faultOf_congr fun z => by cases z <;> rfl
  · exact hw.trans (h.trans (congrArg Option.isSome htimer.symm))
  · obtain ⟨-, -, -, hguard, -, hready, -⟩ := hkept z
    rw [SideState.GuardReady, hside, hguard, hready]
    exact h
  · obtain ⟨-, -, -, hguard, -⟩ := hkept z
    rw [SideState.GuardShape, hside, hguard]
    exact h
  · rw [hside]
    exact (hkept z).2.2.2.2.2.2 h

theorem acknowledge_narrow (s : State) (o : Option Side) (sel : Byte) :
    Narrow s (judgeFault (acknowledgeNotice (acknowledgeSide s o sel) sel)) := fun z => by
  cases o with
  | none => cases z <;> exact Nat.le_refl _
  | some y => cases y <;> cases z <;> exact Nat.le_refl _

/-- The end of a WARN pulse stops its timer (R40, R146). -/
theorem warnPulseEnd_sound (s : State) : Sound s (warnPulseEnd s) := by
  have hside : ∀ z, (warnPulseEnd s).side z = s.side z := fun z => by unfold warnPulseEnd; split <;> cases z <;> rfl
  have hbeside := warnPulseEnd_beside (s := s) (x := .a)
  refine ⟨Kept.of_beside hbeside, fun h => ?_, fun h => ?_, fun z => ?_, fun z => ?_, fun z => ?_⟩
  · have hfault : (warnPulseEnd s).fault = s.fault := by unfold warnPulseEnd; split <;> rfl
    have hsame : faultOf (warnPulseEnd s) = faultOf s := faultOf_congr fun z => by rw [hside]
    rw [FaultExact, hfault, hsame]
    exact h
  · unfold warnPulseEnd
    split
    · rfl
    · exact h
  all_goals
    rw [hside]
    exact id

section
variable (hroom : (s.link x).responses.length < 8)
include hroom

theorem doAcknowledge_sound (r : Request) : Sound s (doAcknowledge s x r) :=
  (acknowledge_sound s _ _).respond (acknowledge_narrow s _ _) hroom _

theorem doViewRestore_sound (r : Request) : Sound s (doViewRestore s x r) := by
  unfold doViewRestore
  split
  · exact refuse_sound hroom _
  · split
    · rename_i h
      exact (startRestoration_sound h.2).respond (Narrow.of_beside (startRestoration_beside _ _)) hroom _
    · exact refuse_sound hroom _

theorem doForceWarning_sound (r : Request) : Sound s (doForceWarning s x r) := by
  unfold doForceWarning
  split
  · exact respond_sound hroom _
  · exact (Change.onSide (setForced_step _ _)).settle.respond
      ((Narrow.onSide s _ _).trans (Narrow.of_beside (settle_beside _ _ _))) hroom _

theorem doWarnStop_sound (r : Request) : Sound s (doWarnStop s x r) :=
  (warnPulseEnd_sound s).respond (Narrow.of_beside (x := .a) (warnPulseEnd_beside _ _)) hroom _

theorem doCameraPass_sound (r : Request) : Sound s (doCameraPass s x r) := by
  unfold doCameraPass
  split
  · exact refuse_sound hroom _
  · split
    · exact refuse_sound hroom _
    · split
      · exact refuse_sound hroom _
      · rename_i y _ _ hfull
        refine (Sound.onSide (SideStep.data id id fun _ => ?_) rfl).respond (Narrow.onSide s _ _) hroom _
        refine (choose_passQueue _).trans ?_
        rw [List.length_append]
        exact Nat.lt_of_not_le hfull

end

end

end Sys2Proof.Invariants
end

section
/-! What a restart, the timers, the completions and a reset keep of the invariants, and so what every command keeps. -/

namespace Sys2Proof.Invariants

open Sys2Proof Sys2Proof.Machine Sys2Proof.Guarding Sys2Proof.TableBanks

section
variable {s t : State} {x y z : Side}

/-! ## SIDE RESTART (R196) -/

theorem abortOperation_sound (s : State) (y : Side) : Sound s (abortOperation s y) := by
  unfold abortOperation
  dsimp only
  split
  · rename_i hop
    have hnone : ∀ x, (s.side y).store.opFrom x = false := fun x => by rw [Store.opFrom, hop]
    refine Sound.onSide ⟨⟨id, id, id, fun ⟨htables, hparity, hsize, _⟩ => ⟨htables, hparity, hsize, nofun⟩, id, id⟩,
      rfl, rfl, fun x => (hnone x).symm, rfl, rfl⟩ rfl
  · rename_i op hop
    rw [onLink_onSide]
    refine (endOperation_change (x := y)
      ⟨id, id, id, fun ⟨htables, hparity, hsize, _⟩ => ⟨htables, hparity, hsize, nofun⟩, id, id⟩ rfl rfl rfl rfl hop
      rfl).sound ?_
    rw [onLink_side, onSide_side_same]

/-- Orders 3 and 5 of R196 as one change of the side: its restart values, its source and its conditions. -/
def restarted (d : SideState) : SideState :=
  { d.restartValues.goStandalone with cond := d.restartValues.goStandalone.cond.restart }

theorem restarted_step (d : SideState) : SideStep d (restarted d) := by
  have hexposure : SideStep d d.restartExposure := SideStep.data id id fun _ => Nat.zero_le _
  have hfound := hexposure.trans (findFailed_step _ [705])
  refine hfound.trans ⟨⟨fun _ => ⟨rfl, rfl⟩, fun _ => ⟨⟨nofun, fun ⟨_, h⟩ => nomatch h⟩, nofun, rfl⟩,
    fun ⟨_, _, hparity⟩ => ⟨Nat.zero_le _, Nat.zero_le _, hparity⟩, id, id, id⟩, rfl, rfl, fun _ => rfl, rfl, rfl⟩

theorem onSide_setGuard (s : State) (y : Side) {f : SideState → SideState} (g : SideState → SideState)
    (hguard : (f (s.side y)).guard = (s.side y).guard)
    (hcomm : ∀ (d : SideState) (k : Guard → Guard), g { d with guard := k d.guard } =
      { g d with guard := k (g d).guard }) (hf : ∀ d, g d = f d) (st : GuardState) (m c : Nat) :
    (setGuard s y st m c).onSide y g = setGuard (s.onSide y f) y st m c := by
  obtain rfl : g = f := funext hf
  have hset := fun d => hcomm d fun k => { k with state := st, m := m, countdown := c }
  unfold setGuard
  dsimp only
  rw [onSide_side_same, hguard, onSide_onSide]
  split
  · rw [onSide_onSide]
    exact congrArg _ (funext hset)
  · have hreports : ∀ t : State, (markReports t y).onSide y g = markReports (t.onSide y g) y := fun t => by
      cases y <;> rfl
    rw [hreports, onSide_onSide]
    exact congrArg (markReports · y) (congrArg _ (funext hset))

/-- A restart takes the guard to HELD with m at 64 on the side as its restart values, its source and its conditions
leave it, and evaluates the change (R159, R196). -/
theorem restartSide_eq (s : State) (y : Side) :
    restartSide s y = judgeRestoration (evaluate
      (setGuard ((abandonFrame (abortOperation s y) y).onSide y restarted) y .held 64 0) y) y := by
  unfold restartSide
  dsimp only
  rw [onSide_onSide]
  rw [onSide_setGuard _ y (f := fun d => { d.goStandalone with cond := d.goStandalone.cond.restart }) _ rfl
    (fun _ _ => rfl) fun _ => rfl]
  rw [onSide_onSide]
  rfl

theorem restartSide_sound (s : State) (y : Side) : Sound s (restartSide s y) := by
  rw [restartSide_eq]
  have hstart : Sound s (abandonFrame (abortOperation s y) y) :=
    (abortOperation_sound s y).trans (abandonFrame_sound _ y)
  refine hstart.trans (Sound.trans ?_ (judgeRestoration_sound _ y))
  generalize abandonFrame (abortOperation s y) y = s1
  have hc : Change y s1 (s1.onSide y restarted) := Change.onSide (restarted_step _)
  generalize s1.onSide y restarted = s2 at hc
  have hb := setGuard_beside s2 y .held 64 0
  refine evaluateFrom_kept (hc.toKept.trans (Kept.of_beside hb)) (fun hw => ?_) (fun hg => ?_) (fun _ => ?_)
    fun z hz => ?_
  · rw [WarnTimed, setGuard_warn, setGuard_warnTimer, hc.warn, hc.warnTimer]
    exact hw
  · rw [setGuard_guard, setGuard_groups, hc.guard, hc.groups]
    exact ⟨hg.1, by rintro (h | h | h) <;> cases h⟩
  · rw [guardShape_iff, setGuard_guard]
    exact ⟨nofun, fun _ => rfl, Nat.le_refl 64, fun _ => rfl⟩
  · rw [beside_side_other hz hb]
    exact ⟨hc.guard z, hc.groups z, hc.cond z hz⟩

theorem restartSide_narrow (s : State) (y : Side) : Narrow s (restartSide s y) := by
  rw [restartSide_eq]
  refine ((abortOperation_narrow s y).trans (abandonFrame_narrow _ y)).trans ((Narrow.onSide _ y restarted).trans ?_)
  exact Narrow.of_beside ((judgeRestoration_beside _ y).trans ((evaluate_beside _ y).trans (setGuard_beside _ y _ _ _)))

theorem doSideRestart_sound (hroom : (s.link x).responses.length < 8) (r : Request) : Sound s (doSideRestart s x r) := by
  unfold doSideRestart
  split
  · exact respond_sound hroom _
  · exact (restartSide_sound s _).respond (restartSide_narrow s _) hroom _

/-! ## The delivery of a waiting line, and what follows it (R174) -/

theorem resume_sound (s : State) (x : Side) (a : After) : Sound s (resume s x a) := by
  unfold resume
  split
  · exact Sound.refl s
  · exact handleFrom_sound s x _ _
  · exact expireFrom_sound s x _
  · exact deliverRemainder_sound x _ _ s

theorem takeWaitingExpiry_sound (s : State) (x : Side) : Sound s (takeWaitingExpiry s x) := by
  unfold takeWaitingExpiry
  split
  · exact expireFrameTimeout_sound s x
  · exact Sound.refl s

theorem takeWaitingRestart_sound (s : State) (x z : Side) : Sound s (takeWaitingRestart s x z) := by
  unfold takeWaitingRestart
  split
  · exact Sound.refl s
  · rename_i r hhead
    split
    · obtain ⟨⟨-, -, hroom, -⟩, -⟩ := canTake_of_headOf hhead
      exact (takeRequest_sound s z).trans (doSideRestart_sound (by rw [takeRequest_responses]; exact hroom) r)
    · exact Sound.refl s

theorem takeWaitingEvents_sound (s : State) (x : Side) : Sound s (takeWaitingEvents s x) :=
  ((takeWaitingExpiry_sound s x).trans (takeWaitingRestart_sound _ x .a)).trans (takeWaitingRestart_sound _ x .b)

theorem finishHandling_sound (s : State) (x : Side) (a : After) : Sound s (finishHandling s x a) := by
  have hevents := (takeWaitingEvents_sound s x).trans (takeHeld_sound _ x)
  unfold finishHandling
  split
  · exact hevents
  · exact hevents
  · exact hevents
  · exact takeHeld_sound s x

theorem deliverAndGoOn_sound (hr : (s.link x).hasRoom = true) (w : Waiting) : Sound s (deliverAndGoOn s x w) := by
  have h := (deliverWaiting_sound hr w.line).trans (resume_sound (deliverWaiting s x w.line) x w.after)
  unfold deliverAndGoOn
  dsimp only
  split
  · exact h
  · exact h.trans (finishHandling_sound _ x _)

/-! ## The display status record (R39, R180, R181) -/

/-- The display status record of a link changes and DISPLAY_FAULT of its side is judged. -/
theorem judgeDisplay_change {f : LinkState → LinkState}
    (hqueues : (s.link x).QueuesBounded → (f (s.link x)).QueuesBounded)
    (hreserved : (f (s.link x)).reservedSlots = (s.link x).reservedSlots) :
    Change x s (judgeDisplay (s.onLink x f) x) := by
  have hlink : ∀ y, ((judgeDisplay (s.onLink x f) x).link y) = (s.onLink x f).link y := fun y => by
    rw [judgeDisplay, onSide_link]
  have hside : ∀ y, y ≠ x → (judgeDisplay (s.onLink x f) x).side y = s.side y := fun y hy => by
    rw [judgeDisplay, onSide_side_other _ _ hy, onLink_side]
  have hsame : (judgeDisplay (s.onLink x f) x).side x =
      { s.side x with
        cond := { (s.side x).cond with
          displayFault := (f (s.link x)).display.silent ||
            ((f (s.link x)).display.faults &&& (s.side x).settings.displayFaultMask != 0) } } := by
    rw [judgeDisplay, onSide_side_same, onLink_link_same, onLink_side]
  have hkept : ∀ y, SideKept (s.side y) ((judgeDisplay (s.onLink x f) x).side y) ∧
      ((judgeDisplay (s.onLink x f) x).side y).store = (s.side y).store ∧
      ((judgeDisplay (s.onLink x f) x).side y).groups = (s.side y).groups ∧
      ((judgeDisplay (s.onLink x f) x).side y).guard = (s.side y).guard := fun y => by
    by_cases hy : y = x
    · subst hy
      rw [hsame]
      exact ⟨⟨id, id, id, id, id, id⟩, rfl, rfl, rfl⟩
    · rw [hside y hy]
      exact ⟨SideKept.refl _, rfl, rfl, rfl⟩
  refine ⟨⟨by rw [judgeDisplay, onSide_pending, onLink_pending], fun y => (hkept y).1, fun y => ?_, fun y h => ?_,
    fun y => ?_⟩, ?_, ?_, ?_, fun y => (hkept y).2.2.1, fun y => (hkept y).2.2.2, fun y hy => by rw [hside y hy]⟩
  · rw [hlink]
    exact onLink_forall (P := fun l m => l.QueuesBounded → m.QueuesBounded) (fun _ => id) hqueues y
  · by_cases hy : y = x
    · subst hy
      rw [DisplayJudged, hsame, hlink, onLink_link_same]
    · exact displayJudged_congr (by rw [hlink, onLink_link_other _ _ hy]) (by rw [hside y hy]) (by rw [hside y hy]) h
  · refine slotsAccounted_congr ?_ (opsFrom_congr fun w => by rw [(hkept w).2.1])
    rw [hlink]
    exact onLink_forall (P := fun l m => m.reservedSlots = l.reservedSlots) (fun _ => rfl) hreserved y
  · rw [judgeDisplay, onSide_fault, onLink_fault]
  · rw [judgeDisplay, onSide_warn, onLink_warn]
  · rw [judgeDisplay, onSide_warnTimer, onLink_warnTimer]

/-! ## Completions on the forward lane (R173, R175, R176) -/

theorem completeFrameEnd_sound (s : State) (x : Side) : Sound s (completeFrameEnd s x) := by
  have hscrub : Sound s (scrub (s.onLink x fun l => { l.idle with frames := l.frames.drop 1 }) x) :=
    (Sound.onLink (LinkStep.lane id)).trans (Change.onSide (scrubBatch_step _)).settle
  have hopen := hscrub.trans (Sound.onLink (z := x) (f := fun l => { l with run := some 0 }) (LinkStep.lane id))
  unfold completeFrameEnd
  dsimp only
  split
  · exact hopen
  · exact hopen.trans (kick_sound _ x)

/-! ## Operations in flight (R56, R57, R59, R60) -/

theorem copyMany_op (n : Nat) {op : Operation} : ∀ {d : SideState}, d.store.op = some op → op.kind = .copy →
    ∃ op', (SideState.copyMany n d).store.op = some op' ∧ op'.kind = .copy ∧ op'.link = op.link := by
  induction n generalizing op with
  | zero => exact fun h hk => ⟨op, h, hk, rfl⟩
  | succ n ih =>
    intro d h hk
    have hnext : ∃ op', d.copyNext.store.op = some op' ∧ op'.kind = .copy ∧ op'.link = op.link := by
      unfold SideState.copyNext
      rw [h]
      dsimp only
      rw [hk]
      dsimp only
      split
      · exact ⟨_, rfl, hk, rfl⟩
      · exact ⟨op, h, hk, rfl⟩
    obtain ⟨op1, h1, hk1, hl1⟩ := hnext
    obtain ⟨op2, h2, hk2, hl2⟩ := ih h1 hk1
    exact ⟨op2, h2, hk2, hl2.trans hl1⟩

theorem execCopyCompletion_answers (x : Side) (s : State) : Answers s (execCopyCompletion x s) := by
  unfold execCopyCompletion
  refine Answers.ite (fun _ => Answers.self s) fun _ => ?_
  split
  · rename_i op hop
    split
    · rename_i hkind
      refine Answers.next ?_
      have hstep := copyMany_step (Config.bankWords - op.progress) (s.side x)
      have hfill : ∀ r : Response, Unread x (State.onLink · op.link (·.fill r)) := fun r =>
        unread_onLink x op.link fun l => by cases x <;> rfl
      rw [(hfill _).settle]
      exact (endOperation_change (f := fun _ => ((s.side x).copyMany (Config.bankWords - op.progress)).endOp)
        (hstep.toSideKept.trans (endOp_kept _)) hstep.groups hstep.guard hstep.displayFault hstep.mask hop rfl).settle
    · exact Answers.self s
  · exact Answers.self s

theorem execCheckCompletion_answers (x : Side) (s : State) : Answers s (execCheckCompletion x s) := by
  unfold execCheckCompletion
  refine Answers.ite (fun _ => Answers.self s) fun _ => ?_
  split
  · rename_i op hop
    split
    · refine Answers.next ((endOperation_change
        ⟨id, id, id, fun ⟨htables, hparity, hsize, _⟩ => ⟨htables, hparity, hsize, nofun⟩, id, id⟩ rfl rfl rfl rfl hop
        rfl).sound ?_)
      rw [onLink_side, onSide_side_same]
    · exact Answers.self s
  · exact Answers.self s

/-! ## Reset (R199 to R201) -/

theorem reset_side_sound (standaloneDue : Bool) :
    (∀ d, SideKept d { SideState.reset with standaloneDue := standaloneDue }) ∧
      { SideState.reset with standaloneDue := standaloneDue }.GuardReady ∧
      { SideState.reset with standaloneDue := standaloneDue }.GuardShape ∧
      { SideState.reset with standaloneDue := standaloneDue }.GroupsJudged := by
  refine ⟨fun d => ⟨fun _ => ⟨rfl, rfl⟩, fun _ => ⟨⟨nofun, fun ⟨h, _⟩ => nomatch h⟩, nofun, rfl⟩,
    fun _ => ⟨Nat.zero_le _, Nat.zero_le _, Nat.zero_le _⟩, fun _ => ⟨rfl, rfl, rfl, nofun⟩, fun _ => ⟨rfl, rfl⟩,
    fun _ => Nat.zero_le _⟩, ⟨rfl, ?_⟩, ⟨nofun, fun _ => rfl, Nat.le_refl 64, fun _ => rfl⟩, ?_⟩
  · rintro (h | h | h) <;> cases h
  · show ∀ g ∈ Groups.reset.list, g.nonconforming = g.mismatch Conditions.reset.vector
    decide

/-- A reset satisfies every invariant, whatever the state was. -/
theorem resetAs_sound (s : State) (cause : Cause) (timer : Option Time) (due held : Bool) :
    Sound s (resetAs s cause timer due held) := by
  obtain ⟨hkept, hready, hshape, hjudged⟩ := reset_side_sound due
  refine ⟨⟨rfl, fun y => ?_, fun y _ => ?_, fun y _ => ?_, fun y _ => ?_⟩, fun _ => rfl, fun _ => rfl, fun y _ => ?_,
    fun y _ => ?_, fun y _ => ?_⟩
  · rw [resetAs_side]
    exact hkept _
  · rw [resetAs_link]
    exact ⟨Nat.zero_le _, Nat.zero_le _, Nat.zero_le _⟩
  · rw [DisplayJudged, resetAs_side, resetAs_link]
    show false = (false || ((0#8 &&& 0xFF#8) != 0))
    decide
  · rw [SlotsAccounted, resetAs_link]
    exact ⟨rfl, Nat.zero_le _⟩
  all_goals rw [resetAs_side]
  · exact hready
  · exact hshape
  · exact hjudged

/-- The release of RESET starts the display timeouts and makes the standalone frame starts due (R201). -/
theorem release_sound (s : State) : Sound s
    { s with
      linkA := s.linkA.startTimer s.timeBase
      linkB := s.linkB.startTimer s.timeBase
      sideA := { s.sideA with standaloneDue := true }
      sideB := { s.sideB with standaloneDue := true }
      resetHeld := false } := by
  refine ⟨⟨rfl, fun y => ?_, fun y => ?_, fun y => ?_, fun y => ?_⟩, id, id, fun y => ?_, fun y => ?_, fun y => ?_⟩
  · cases y <;> exact ⟨id, id, id, id, id, id⟩
  all_goals cases y <;> exact id

/-! ## The request queue (R182) -/

/-- A change of a link that leaves what DISPLAY_FAULT is judged from. -/
theorem recordKept_sound {f : LinkState → LinkState}
    (hqueues : (s.link x).QueuesBounded → (f (s.link x)).QueuesBounded)
    (hreserved : (f (s.link x)).reservedSlots = (s.link x).reservedSlots)
    (hsilent : (f (s.link x)).display.silent = (s.link x).display.silent)
    (hfaults : (f (s.link x)).display.faults = (s.link x).display.faults) : Sound s (s.onLink x f) := by
  refine ⟨⟨onLink_pending s x f, fun y => ?_, fun y => ?_, fun y h => ?_, fun y => ?_⟩, fun h => ?_, fun h => ?_,
    fun y => ?_, fun y => ?_, fun y => ?_⟩
  · rw [onLink_side]
    exact SideKept.refl _
  · exact onLink_forall (P := fun l m => l.QueuesBounded → m.QueuesBounded) (fun _ => id) hqueues y
  · obtain ⟨hs, hf⟩ : ((s.onLink x f).link y).display.silent = (s.link y).display.silent ∧
        ((s.onLink x f).link y).display.faults = (s.link y).display.faults :=
      onLink_forall (P := fun l m => m.display.silent = l.display.silent ∧ m.display.faults = l.display.faults)
        (fun _ => ⟨rfl, rfl⟩) ⟨hsilent, hfaults⟩ y
    rw [DisplayJudged, onLink_side, hs, hf]
    exact h
  · exact slotsAccounted_congr (onLink_forall (P := fun l m => m.reservedSlots = l.reservedSlots) (fun _ => rfl)
      hreserved y) (opsFrom_congr fun w => by rw [onLink_side])
  · have hsame : faultOf (s.onLink x f) = faultOf s := faultOf_congr fun y => by rw [onLink_side]
    rw [FaultExact, onLink_fault, hsame]
    exact h
  · rw [WarnTimed, onLink_warn, onLink_warnTimer]
    exact h
  all_goals
    rw [onLink_side]
    exact id

theorem discardRequest_sound (s : State) (x : Side) : Sound s (s.onLink x LinkState.discardRequest) :=
  recordKept_sound id rfl rfl rfl

theorem queueRequest_sound (s : State) (x : Side) (r : Request) : Sound s (s.onLink x (·.queueRequest r)) := by
  by_cases hfree : (s.link x).requests.length < Config.requestSlots
  · have heq : (s.link x).queueRequest r = { s.link x with requests := (s.link x).requests ++ [r] } := if_pos hfree
    refine recordKept_sound (fun ⟨_, hr, hb⟩ => ?_) ?_ ?_ ?_ <;> rw [heq]
    · exact ⟨by rw [List.length_append]; exact hfree, hr, hb⟩
    · rfl
  · have heq : (s.link x).queueRequest r = (s.link x).discardRequest := if_neg hfree
    refine recordKept_sound ?_ ?_ ?_ ?_ <;> rw [heq]
    · exact id
    all_goals rfl

/-! ## Every command -/

/-- The invariants that every command keeps whatever the receivers hold, and with them the queue of the commands that
wait (log 29). -/
theorem exec_sound (i : Instr) (s : State) : Answers s (exec i s) := by
  have hcell : ∀ x c, Answers s (if s.resetHeld then .next s else .next (arrive s x c)) := fun x c =>
    Answers.ite (fun _ => Answers.self s) fun _ => Answers.next (arrive_sound s x c)
  have hdue : ∀ (c : Prop) [Decidable c] (t : State), (c → Sound s t) →
      Answers s (if s.resetHeld then .next s else if c then .next t else .next s) := fun c _ t h =>
    Answers.ite (fun _ => Answers.self s) fun _ =>
      Answers.ite (fun hc => Answers.next (h hc)) fun _ => Answers.self s
  have hfree : ∀ (t : State), Sound s t → Answers s (if s.resetHeld then .next s else .next t) := fun t h =>
    Answers.ite (fun _ => Answers.self s) fun _ => Answers.next h
  cases i with
  | cameraFrameStart x body => exact hcell x _
  | cameraLine x body => exact hcell x _
  | cameraFrameEnd x body => exact hcell x _
  | cameraStatus x body => exact hcell x _
  | cameraUnknownKindCell x kind body => exact Answers.self s
  | frameTimeoutExpiry x => exact hdue _ _ fun _ => expireFrameTimeout_sound s x
  | standalonePeriodExpiry x => exact hdue _ _ fun _ => Sound.onSide (SideStep.data id id id) rfl
  | standaloneFrameStart x => exact hdue _ _ fun _ => startStandalone_sound s x
  | displayTimeoutExpiry x => exact hdue _ _ fun _ => (judgeDisplay_change id rfl).settle
  | warnPulseExpiry => exact hdue _ _ fun _ => warnPulseEnd_sound s
  | copyCompletion x => exact execCopyCompletion_answers x s
  | checkCompletion x => exact execCheckCompletion_answers x s
  | frameEndUpdateCompletion x =>
    refine Answers.ite (fun _ => Answers.self s) fun _ => ?_
    split
    · exact Answers.self s
    · exact Answers.next (Change.onSide (completeUpdate_step _ _)).settle
  | commandLaneTxCompletion x =>
    exact hfree _ (Sound.onSide (SideStep.data id id (complete_passQueue _).trans) rfl)
  | egressLineCompletion x =>
    exact hdue _ _ fun _ => Sound.onLink ((LinkStep.lane id).trans (afterLine_step s _))
  | egressFrameEndCompletion x => exact hdue _ _ fun _ => completeFrameEnd_sound s x
  | egressFrameStartCompletion x =>
    exact hdue _ _ fun _ => (Sound.onLink (LinkStep.lane id)).trans (kick_sound _ x)
  | insertedCellCompletion x =>
    exact hdue _ _ fun _ => (Sound.onLink (LinkStep.lane id)).trans (kick_sound _ x)
  | deferredLineDelivery x =>
    refine Answers.ite (fun _ => Answers.self s) fun _ => ?_
    split
    · exact Answers.self s
    · exact Answers.ite (fun hr => Answers.next (deliverAndGoOn_sound hr _)) fun _ => Answers.self s
  | displayStatus x body => exact hdue _ _ fun _ => (judgeDisplay_change id rfl).settle
  | request x body =>
    refine Answers.ite (fun _ => Answers.self s) fun _ => ?_
    exact Answers.ite (fun _ => Answers.next (queueRequest_sound s x _)) fun _ => Answers.next (discardRequest_sound s x)
  | displayUnknownKindCell x kind body => exact Answers.self s
  | read x => exact taken_answers fun t r _ hroom _ => doRead_sound hroom r
  | writeSettings x => exact taken_answers fun t r _ hroom _ => doWriteSettings_sound hroom r
  | tableWrite x => exact taken_answers fun t r _ hroom _ => doTableWrite_sound hroom r
  | tableRead x => exact taken_answers fun t r _ hroom _ => doTableRead_sound hroom r
  | copyBank x => exact taken_answers fun t r hops hroom _ => doCopyBank_sound hroom hops r
  | commitBank x => exact taken_answers fun t r hops hroom _ => doCommitBank_sound hroom hops r
  | acknowledge x => exact taken_answers fun t r _ hroom _ => doAcknowledge_sound hroom r
  | viewRestore x => exact taken_answers fun t r _ hroom _ => doViewRestore_sound hroom r
  | forceWarning x => exact taken_answers fun t r _ hroom _ => doForceWarning_sound hroom r
  | warnStop x => exact taken_answers fun t r _ hroom _ => doWarnStop_sound hroom r
  | cameraPass x => exact taken_answers fun t r _ hroom _ => doCameraPass_sound hroom r
  | sideRestart x =>
    exact Answers.ite (fun _ => Answers.self s) fun _ => taken_answers fun t r _ hroom _ => doSideRestart_sound hroom r
  | partReset x => exact taken_answers (run := fun t _ _ => resetPart t .request) fun t _ _ _ _ =>
      resetAs_sound t .request (some 0) true false
  | unknownRequest x => exact taken_answers (run := fun t y _ => refuse t y .unknown) fun t r _ hroom _ => refuse_sound hroom _
  | resetLow => exact Answers.next (resetAs_sound s .power none false true)
  | resetReleased => exact Answers.ite (fun _ => Answers.next (release_sound s)) fun _ => Answers.self s
  | parityFailure x bank word value => exact hfree _ (Sound.onSide (strike_step _ bank word value) rfl)
  | copyWord x => exact hfree _ (Change.onSide (copyNext_step _)).settle
  | checkWord x => exact hfree _ (Sound.onSide (checkNext_step _) rfl)

end

end Sys2Proof.Invariants
end

section
/-! The step lemmas: what every step keeps. -/

namespace Sys2Proof.Invariants

open Sys2Proof Sys2Proof.Machine

/-- A property that reads neither the commands that wait nor the time base, and that every command keeps, is kept by
every step. -/
theorem step_keeps {P : State → Prop} (hframe : ∀ s q n, P s → P { s with pending := q, timeBase := n })
    (hexec : ∀ i s t, exec i s = .next t → P s → P t) {s t : State} (h : P s) (hstep : step s = .next t) : P t := by
  unfold step at hstep
  split at hstep
  · obtain rfl := Host.Outcome.next.inj hstep
    unfold idle
    split
    · exact h
    · split
      · exact hframe s s.pending _ h
      · exact hframe s _ s.timeBase h
  · exact hexec _ _ t hstep (hframe s _ s.timeBase h)

/-- The same for what every command keeps whatever the receivers hold. -/
theorem step_keeps_of_sound {P : State → Prop} (hframe : ∀ s q n, P s → P { s with pending := q, timeBase := n })
    (hsound : ∀ s t, Sound s t → P s → P t) {s t : State} (h : P s) (hstep : step s = .next t) : P t := by
  refine step_keeps hframe (fun i s t hexec => ?_) h hstep
  obtain ⟨u, hu, hs⟩ := exec_sound i s
  obtain rfl := Host.Outcome.next.inj (hexec.symm.trans hu)
  exact hsound s t hs

/-- A property of a side, and one of a link, read neither the commands that wait nor the time base. -/
theorem frame_sides {P : SideState → Prop} (s : State) (q : List Instr) (n : Time) (h : ∀ x, P (s.side x)) :
    ∀ x, P (({ s with pending := q, timeBase := n } : State).side x)
  | .a => h .a
  | .b => h .b

/-! ## The statements -/

/-- Settles O1. -/
theorem stepRunsFrontCommand : Obligations.StepRunsFrontCommand := fun _ _ _ => rfl

/-- Settles O2, by the cases of an idle step. -/
theorem idleStep : Obligations.IdleStep := by
  intro s hpending
  have hstep : step s = .next (idle s) := by rw [step, hpending]
  rw [hstep]
  refine ⟨fun hheld => ?_, fun hfree hnone => ?_, fun hfree hdue => ?_⟩
  · rw [idle, if_pos hheld]
  · rw [idle, if_neg (Bool.eq_false_iff.mp hfree), hnone]
    rfl
  · rw [idle, if_neg (Bool.eq_false_iff.mp hfree)]
    cases hd : dueEvents s with
    | nil => exact absurd hd hdue
    | cons c rest => rfl

/-- Settles O3. -/
theorem everyCommandCompletes : Obligations.EveryCommandCompletes := by
  intro i s
  obtain ⟨t, ht, hs⟩ := exec_sound i s
  exact ⟨t, ht, hs.pending⟩

/-- Settles O7. -/
theorem pinsExactKept : Obligations.PinsExactKept := by
  intro s t hf hw
  exact step_keeps_of_sound (P := fun s => FaultExact s ∧ WarnTimed s) (fun _ _ _ => id)
    (fun _ _ hs h => ⟨hs.fault h.1, hs.warn h.2⟩) ⟨hf, hw⟩

/-- Settles O8. -/
theorem guardSoundKept : Obligations.GuardSoundKept :=
  ⟨fun _ _ => step_keeps_of_sound (frame_sides (P := SideState.GuardReady)) fun _ _ hs h x => hs.ready x (h x),
    fun _ _ => step_keeps_of_sound (frame_sides (P := SideState.GuardShape)) fun _ _ hs h x => hs.shape x (h x)⟩

/-- Settles O9. -/
theorem judgementsKept : Obligations.JudgementsKept := by
  refine ⟨fun _ _ => step_keeps_of_sound (frame_sides (P := SideState.GroupsJudged)) fun _ _ hs h x => hs.judged x (h x),
    fun s t => step_keeps_of_sound (P := fun s => ∀ x, (s.side x).CameraJudged ∧ DisplayJudged s x)
      (fun s q n h x => ?_) (fun _ _ hs h x => ?_)⟩
  · have hx := h x
    cases x <;> exact hx
  · exact ⟨(hs.sides x).camera (h x).1, hs.display x (h x).2⟩

/-- Settles O11. -/
theorem banksKept : Obligations.BanksKept :=
  ⟨fun _ _ => step_keeps_of_sound (frame_sides (P := SideState.BankSound)) fun _ _ hs h x => (hs.sides x).bank (h x),
    fun _ _ => step_keeps_of_sound (frame_sides (P := SideState.BanksCanonical)) fun _ _ hs h x =>
      (hs.sides x).canonical (h x)⟩

/-- Settles O12. -/
theorem queuesKept : Obligations.QueuesKept := by
  refine ⟨fun s t => step_keeps_of_sound (P := fun s => ∀ x, (s.link x).QueuesBounded ∧ (s.side x).PassBounded)
      (fun s q n h x => ?_) (fun _ _ hs h x => ?_),
    fun s t => step_keeps_of_sound (P := fun s => ∀ x, SlotsAccounted s x) (fun s q n h x => ?_)
      (fun _ _ hs h x => hs.slots x (h x))⟩
  · have hx := h x
    cases x <;> exact hx
  · exact ⟨hs.links x (h x).1, (hs.sides x).pass (h x).2⟩
  · have hx := h x
    cases x <;> exact hx

/-- Settles O6. -/
theorem invariantsAtReset : Obligations.InvariantsAtReset := by
  obtain ⟨hkept, hready, hshape, hjudged⟩ := reset_side_sound true
  have hside : ∀ x, State.reset.side x = SideState.reset := fun x => by cases x <;> rfl
  have hlink : ∀ x, State.reset.link x = LinkState.reset := fun x => by cases x <;> rfl
  refine ⟨rfl, rfl, fun x => ?_⟩
  rw [hside, hlink]
  refine ⟨hready, hshape, hjudged, ⟨⟨nofun, fun ⟨h, _⟩ => nomatch h⟩, nofun, rfl⟩, ⟨rfl, rfl, rfl, nofun⟩, ⟨rfl, rfl⟩,
    ⟨nofun, rfl⟩, ⟨Nat.zero_le _, Nat.zero_le _, Nat.zero_le _⟩, ⟨rfl, rfl⟩, Nat.zero_le _, ?_,
    ⟨Nat.zero_le _, Nat.zero_le _, Nat.zero_le _⟩, ?_⟩
  · rw [DisplayJudged, hside, hlink]
    show false = (false || ((0#8 &&& 0xFF#8) != 0))
    decide
  · rw [SlotsAccounted, hlink]
    exact ⟨rfl, Nat.zero_le _⟩

end Sys2Proof.Invariants
end

section
/-! What the operations of one side leave of the receivers of both. -/

namespace Sys2Proof.Receiving

open Sys2Proof Sys2Proof.Machine

/-- The other side is as it was. -/
def Apart (x : Side) (s t : State) : Prop := ∀ y, y ≠ x → t.side y = s.side y

/-- What the invariant of a receiver reads is as it was. -/
structure Still (d e : SideState) : Prop where
  state : e.recv.state = d.recv.state
  expected : e.recv.expected = d.recv.expected
  damaged : e.recv.damaged = d.recv.damaged
  missing : e.recv.missing = d.recv.missing
  source : e.source = d.source
  waiting : e.pipe.waiting = d.pipe.waiting
  values : e.pipe.values = d.pipe.values

/-- The other side is as it was, and so is the receiver of this one. -/
structure Calm (x : Side) (s t : State) : Prop where
  apart : Apart x s t
  still : Still (s.side x) (t.side x)

section
variable {d e f : SideState}

theorem Still.refl (d : SideState) : Still d d := ⟨rfl, rfl, rfl, rfl, rfl, rfl, rfl⟩

theorem Still.trans (h : Still d e) (k : Still e f) : Still d f :=
  ⟨k.state.trans h.state, k.expected.trans h.expected, k.damaged.trans h.damaged, k.missing.trans h.missing,
    k.source.trans h.source, k.waiting.trans h.waiting, k.values.trans h.values⟩

theorem Still.height (h : Still d e) : e.frameHeight = d.frameHeight := by
  rw [SideState.frameHeight, Pipeline.inUse, h.values]
  rfl

theorem Still.of_beside (h : e.besideSupervision = d.besideSupervision) : Still d e := by
  rw [besideSupervision_rest h.symm]
  exact ⟨rfl, rfl, rfl, rfl, rfl, rfl, rfl⟩

/-- What a cell fills is limited by the cell and the height of the frame alone. -/
theorem fillStop_congr (c : CameraCell) (h : e.frameHeight = d.frameHeight) : e.fillStop c = d.fillStop c := by
  unfold SideState.fillStop
  rw [h]

theorem Still.reached (h : Still d e) : e.reached = d.reached := by
  unfold SideState.reached
  rw [h.waiting, h.expected]

theorem Still.waitingSound (h : Still d e) : e.waitingSound = d.waitingSound := by
  unfold SideState.waitingSound
  simp only [h.waiting, h.state, fillStop_congr _ h.height, h.height]

theorem Still.sound (h : Still d e) (hd : d.ReceiverSound) : e.ReceiverSound := by
  rw [SideState.ReceiverSound, h.state, h.source, h.reached, h.height, h.damaged, h.missing, h.waitingSound]
  exact hd

/-! ## Sides of an invariant -/

/-- A frame is in progress whose lines below y have been handed on. -/
structure InFrame (d : SideState) (y : Nat) : Prop where
  state : d.recv.state = .receiving
  source : d.source = .follow
  within : y ≤ d.frameHeight
  counted : d.recv.damaged + d.recv.missing ≤ y

/-- No frame is in progress, and no cell and no expiry is in handling. -/
structure Quiet (d : SideState) : Prop where
  state : d.recv.state ≠ .receiving
  waiting : d.waitingSound = true

theorem Quiet.sound (h : Quiet d) : d.ReceiverSound := ⟨fun hr => absurd hr h.state, h.waiting⟩

theorem waitingSound_none (h : d.pipe.waiting = none) : d.waitingSound = true := by
  unfold SideState.waitingSound
  rw [h]

theorem reached_none (h : d.pipe.waiting = none) : d.reached = d.recv.expected := by
  unfold SideState.reached
  rw [h]

/-- With no line waiting, the invariant speaks of the frame in progress. -/
theorem receiverSound_iff (h : d.pipe.waiting = none) :
    d.ReceiverSound ↔ (d.recv.state = .receiving → InFrame d d.recv.expected) := by
  rw [SideState.ReceiverSound, waitingSound_none h, reached_none h]
  exact ⟨fun ⟨hr, _⟩ hs => ⟨hs, (hr hs).1, (hr hs).2.1, (hr hs).2.2⟩,
    fun hr => ⟨fun hs => ⟨(hr hs).source, (hr hs).within, (hr hs).counted⟩, rfl⟩⟩

/-- Outside a frame the invariant reads nothing but the waiting line. -/
theorem quiet_congr (hd : d.ReceiverSound) (hstate : d.recv.state ≠ .receiving) (he : e.recv.state ≠ .receiving)
    (hwaiting : e.pipe.waiting = d.pipe.waiting) : Quiet e := by
  obtain ⟨-, hw⟩ := hd
  refine ⟨he, ?_⟩
  unfold SideState.waitingSound at *
  rw [hwaiting]
  cases hpipe : d.pipe.waiting with
  | none => rfl
  | some w =>
    obtain ⟨line, after⟩ := w
    rw [hpipe] at hw
    cases after with
    | handled => rfl
    | cell y c => simp [hstate] at hw
    | expiry y => simp [hstate] at hw
    | abandoned r => exact decide_eq_true he

end

section
variable {s t u : State} {x : Side}

theorem Apart.refl (x : Side) (s : State) : Apart x s s := fun _ _ => rfl

theorem Apart.trans (h : Apart x s t) (k : Apart x t u) : Apart x s u := fun y hy => (k y hy).trans (h y hy)

theorem Apart.onSide (f : SideState → SideState) : Apart x s (s.onSide x f) := fun _ hy => onSide_side_other _ _ hy

theorem Apart.of_delivery (h : t.besideDelivery x = s.besideDelivery x) : Apart x s t :=
  fun _ hy => besideDelivery_side_other hy h

theorem Calm.refl (x : Side) (s : State) : Calm x s s := ⟨Apart.refl x s, Still.refl _⟩

theorem Calm.trans (h : Calm x s t) (k : Calm x t u) : Calm x s u := ⟨h.apart.trans k.apart, h.still.trans k.still⟩

theorem Calm.of_beside (h : t.besideSupervision x = s.besideSupervision x) : Calm x s t :=
  ⟨fun _ hy => beside_side_other hy h, Still.of_beside (beside_side h)⟩

theorem Calm.of_sides (h : ∀ y, t.side y = s.side y) : Calm x s t :=
  ⟨fun y _ => h y, by rw [h]; exact Still.refl _⟩

theorem Calm.of_egress (h : t.besideEgress x = s.besideEgress x) : Calm x s t := Calm.of_sides (besideEgress_side h)

theorem Calm.onSide {f : SideState → SideState} (h : Still (s.side x) (f (s.side x))) : Calm x s (s.onSide x f) :=
  ⟨Apart.onSide f, by rw [onSide_side_same]; exact h⟩

theorem Calm.onLink (x z : Side) (s : State) (f : LinkState → LinkState) : Calm x s (s.onLink z f) :=
  Calm.of_sides fun _ => onLink_side _ _ _ _

theorem Calm.settle {f : SideState → SideState} (h : Still (s.side x) (f (s.side x))) (before : Conditions) :
    Calm x s (settle (s.onSide x f) x before) := (Calm.onSide h).trans (Calm.of_beside (settle_beside _ x _))

/-! ## Operations that leave the receiver alone -/

theorem swapIfPending_calm (s : State) (x : Side) : Calm x s (swapIfPending s x) := by
  unfold swapIfPending
  split
  · refine ((Calm.onSide ?_).trans (Calm.of_sides fun y => markReports_side _ x y)).trans
      (Calm.of_beside (settle_beside _ x _))
    rw [swap_frame]
    exact ⟨rfl, rfl, rfl, rfl, rfl, rfl, rfl⟩
  · exact Calm.refl x s

theorem takeDevelop_still (d : SideState) : Still d d.takeDevelop := by
  rw [takeDevelop_frame]
  exact ⟨rfl, rfl, rfl, rfl, rfl, rfl, rfl⟩

theorem findFailed_still (d : SideState) (ws : List Nat) : Still d (d.findFailed ws) := by
  rw [findFailed_frame]
  exact ⟨rfl, rfl, rfl, rfl, rfl, rfl, rfl⟩

theorem beginEgressFrame_side (s : State) (x : Side) (src : Source) (w h : Nat) (colour : Rgb) (y : Side) :
    (beginEgressFrame s x src w h colour).side y = s.side y :=
  (besideEgress_side (beginEgressFrame_beside s x src w h colour) y).trans (onLink_side _ _ _ _)

theorem startEgress_calm (s : State) (x : Side) (src : Source) (w h : Nat) (colour : Rgb) :
    Calm x s (startEgress s x src w h colour) :=
  ((Calm.of_beside (guardStep_beside s x)).trans
    (Calm.onSide (f := SideState.takeInUse) ⟨rfl, rfl, rfl, rfl, rfl, rfl, rfl⟩)).trans
    (Calm.of_sides (beginEgressFrame_side _ x src w h colour))

theorem statusCell_still (d : SideState) (body : List Byte) : Still d (d.statusCell body) := by
  have hstore : ∀ b, Still d (d.storeStatus body b) := fun _ => ⟨rfl, rfl, rfl, rfl, rfl, rfl, rfl⟩
  unfold SideState.statusCell
  split
  · refine (hstore false).trans ?_
    unfold SideState.handStatus
    split
    · exact ⟨rfl, rfl, rfl, rfl, rfl, rfl, rfl⟩
    · exact Still.refl _
  · split
    · exact hstore true
    · exact ⟨rfl, rfl, rfl, rfl, rfl, rfl, rfl⟩

/-! ## The end of a frame (R18 to R21) -/

theorem closeFrame_recv (d : SideState) :
    d.closeFrame.recv.state = .waitStart ∧ d.closeFrame.pipe = d.pipe := by
  refine ⟨rfl, ?_⟩
  unfold SideState.closeFrame SideState.completedEnd
  split
  · rfl
  · unfold SideState.startUpdate
    dsimp only
    rw [findFailed_frame]
    rfl

/-- A frame end leaves the receiver in WAIT_START, and the line that waits as it was. -/
theorem endFrame_recv (s : State) (x : Side) : Apart x s (endFrame s x) ∧
    ((endFrame s x).side x).recv.state = .waitStart ∧
    ((endFrame s x).side x).pipe.waiting = (s.side x).pipe.waiting := by
  obtain ⟨hstate, hpipe⟩ := closeFrame_recv (s.side x)
  have hcalm : Calm x (s.onSide x SideState.closeFrame) (endFrame s x) :=
    ((Calm.of_beside (settle_beside _ x _)).trans (Calm.of_beside (guardFrameEnd_beside _ x))).trans
      (Calm.of_egress (handFollowEnd_beside _ x))
  have hstill := hcalm.still
  rw [onSide_side_same] at hstill
  exact ⟨(Apart.onSide _).trans hcalm.apart, hstill.state.trans hstate, hstill.waiting.trans (by rw [hpipe])⟩

/-- So does the end of an abandonment. -/
theorem endAbandoned_recv (s : State) (x : Side) : Apart x s (endAbandoned s x) ∧
    ((endAbandoned s x).side x).recv.state = .waitStart ∧
    ((endAbandoned s x).side x).pipe.waiting = (s.side x).pipe.waiting := by
  have hside := besideEgress_side (endAbandoned_beside s x)
  refine ⟨fun y hy => (hside y).trans (onSide_side_other _ _ hy), ?_, ?_⟩ <;> rw [hside, onSide_side_same] <;> rfl

/-- A link loss leaves the receiver outside a frame as it was. -/
theorem linkLost_recv (s : State) (x : Side) : Apart x s (linkLost s x) ∧
    ((linkLost s x).side x).recv = (s.side x).recv ∧
    ((linkLost s x).side x).pipe = (s.side x).pipe := by
  have hb := settle_beside (s.onSide x SideState.loseLink) x (s.side x).cond
  unfold linkLost
  refine ⟨(Apart.onSide _).trans ((Calm.of_beside hb).apart.trans (Apart.onSide _)), ?_, ?_⟩ <;>
    rw [onSide_side_same, SideState.goStandalone, besideSupervision_rest (beside_side hb).symm, onSide_side_same] <;> rfl

/-! ## Lines (R10, R17, R21, R67) -/

theorem waits_eq_false (h : (s.side x).pipe.waiting = none) : waits s x = false := by rw [waits, h]; rfl

theorem waiting_of_waits (h : ¬ waits s x = true) : (s.side x).pipe.waiting = none := by
  unfold waits at h
  simpa using h

/-- The side of a state that differs from another beside its delivery alone. -/
theorem side_of_delivery {d : SideState} (h : (t.side x).besideWaiting = d.besideWaiting) :
    t.side x = d.setWaiting (t.side x).pipe.waiting := by
  have hset := congrArg (fun e : SideState => e.setWaiting (t.side x).pipe.waiting) h
  exact hset

/-- Filled lines are the first of those asked for: all of them with no line left waiting, or those up to one that waits
with what comes behind it. -/
theorem fillLines_outcome (after : Nat → After) : ∀ (count y : Nat) (s : State), (s.side x).pipe.waiting = none →
    ∃ k ≤ count, ∃ w, (fillLines x after count y s).side x = ((s.side x).filled y k).setWaiting w ∧
      Apart x s (fillLines x after count y s) ∧
      (w = none ∧ k = count ∨ ∃ line, w = some ⟨line, after (y + k)⟩)
  | 0, y, s, hw => ⟨0, Nat.le_refl 0, none, by
      rw [fillLines, filled_zero, ← hw]
      rfl, Apart.refl x s, .inl ⟨rfl, rfl⟩⟩
  | count + 1, y, s, hw => by
    have hd := deliver_beside (s.onSide x fun d => (d.fillLine y).1) x ((s.side x).fillLine y).2 (after (y + 1))
    have hside := side_of_delivery (besideDelivery_side hd)
    have hapart : Apart x s _ := (Apart.onSide _).trans (Apart.of_delivery hd)
    rw [onSide_side_same, fillLine_side] at hside
    rw [fillLines]
    generalize hs1 : deliver (s.onSide x fun d => (d.fillLine y).1) x ((s.side x).fillLine y).2 (after (y + 1)) = s1 at *
    have hline : waits s1 x = true → ∃ line, (s1.side x).pipe.waiting = some ⟨line, after (y + 1)⟩ := fun hwaits => by
      rw [← hs1] at hwaits ⊢
      unfold deliver at hwaits ⊢
      split at hwaits <;> rename_i hroom
      · rw [waits, besideEgress_side (enterBuffer_beside _ x _), onSide_side_same, fillLine_side, filled_pipe, hw] at hwaits
        cases hwaits
      · rw [if_neg hroom, onSide_side_same, setWaiting_waiting]
        exact ⟨_, rfl⟩
    split
    · rename_i hwaits
      exact ⟨1, by omega, _, hside, hapart, .inr (hline hwaits)⟩
    · rename_i hwaits
      have hnone := waiting_of_waits hwaits
      obtain ⟨k, hk, w, hside2, hapart2, hend⟩ := fillLines_outcome after count (y + 1) s1 hnone
      have hfilled : s1.side x = (s.side x).filled y 1 := by
        rw [hside, hnone, ← hw]
        rfl
      rw [hfilled, filled_filled] at hside2
      refine ⟨k + 1, by omega, w, hside2, hapart.trans hapart2, ?_⟩
      rcases hend with ⟨hw, hk⟩ | ⟨line, hw⟩
      · exact .inl ⟨hw, by omega⟩
      · exact .inr ⟨line, hw.trans (by rw [Nat.add_right_comm, Nat.add_assoc])⟩

end

end Sys2Proof.Receiving
end

section
/-! What keeps the invariant of a receiver: the cells of the camera link, an expiry, a restart and a delivery. -/

namespace Sys2Proof.Receiving

open Sys2Proof Sys2Proof.Machine

/-- An operation of a side leaves the other side as it was and the invariant of its own receiver true. -/
structure Good (x : Side) (s t : State) : Prop where
  apart : Apart x s t
  sound : (t.side x).ReceiverSound

section
variable {s t u : State} {x : Side} {d : SideState}

theorem Calm.good (h : Calm x s t) (hs : (s.side x).ReceiverSound) : Good x s t := ⟨h.apart, h.still.sound hs⟩

theorem Good.after (k : Good x t u) (h : Apart x s t) : Good x s u := ⟨h.trans k.apart, k.sound⟩

theorem Good.calm (h : Good x s t) (k : Calm x t u) : Good x s u := ⟨h.apart.trans k.apart, k.still.sound h.sound⟩

theorem not_receiving_of_waitStart (h : d.recv.state = .waitStart) : d.recv.state ≠ .receiving := by
  rw [h]
  exact RecvState.noConfusion

theorem quiet_of_none (h : d.recv.state ≠ .receiving) (hw : d.pipe.waiting = none) : Quiet d :=
  ⟨h, waitingSound_none hw⟩

/-! ## A line of its own (R9, R12, R13) -/

/-- The last line of a cell: its side, with n behind it, and no line before it left waiting. -/
theorem handLast_good {own : SideState × OutLine}
    (hframe : InFrame own.1 own.1.recv.expected) (hw : own.1.pipe.waiting = none) : Good x s (handLast s x own) := by
  have hd := deliver_beside (s.onSide x fun _ => own.1) x own.2 .handled
  have hside := side_of_delivery (besideDelivery_side hd)
  rw [onSide_side_same] at hside
  refine ⟨(Apart.onSide _).trans (Apart.of_delivery hd), ?_⟩
  show ((deliver (s.onSide x fun _ => own.1) x own.2 .handled).side x).ReceiverSound
  have hcases : ((deliver (s.onSide x fun _ => own.1) x own.2 .handled).side x).pipe.waiting = none ∨
      ((deliver (s.onSide x fun _ => own.1) x own.2 .handled).side x).pipe.waiting = some ⟨own.2, .handled⟩ := by
    unfold deliver
    split
    · rw [besideEgress_side (enterBuffer_beside _ x _), onSide_side_same]
      exact .inl hw
    · rw [onSide_side_same]
      exact .inr rfl
  rw [hside]
  rcases hcases with h | h <;> rw [h]
  · exact (receiverSound_iff rfl).mpr fun _ => ⟨hframe.state, hframe.source, hframe.within, hframe.counted⟩
  · exact ⟨fun _ => ⟨hframe.source, hframe.within, hframe.counted⟩, rfl⟩

theorem ownLine_frame {body : List Byte} (h : InFrame d (lineNumber body)) (hk : lineNumber body < d.frameHeight) :
    InFrame (d.ownLine body).1 (d.ownLine body).1.recv.expected :=
  ⟨h.state, h.source, hk, Nat.le_succ_of_le h.counted⟩

theorem damagedLine_frame {body : List Byte} (h : InFrame d d.recv.expected) (hn : d.recv.expected < d.frameHeight) :
    InFrame (d.damagedLine body).1 (d.damagedLine body).1.recv.expected ∧
      (d.damagedLine body).1.pipe = d.pipe := by
  have hcount := h.counted
  have hsum : d.recv.damaged + 1 + d.recv.missing ≤ d.recv.expected + 1 := by omega
  unfold SideState.damagedLine
  dsimp only
  split <;> exact ⟨⟨h.state, h.source, hn, hsum⟩, rfl⟩

/-! ## A FRAME START outside a frame (R4 to R7) -/

theorem acceptFrame_good (hw : (s.side x).pipe.waiting = none) (before : Conditions) (number : Byte)
    (values : FrameValues) : Good x s (acceptFrame s x before number values) := by
  have hside : ((s.onSide x fun d => d.accept s.timeBase number values).onLink x (·.handEnd .standalone)).side x =
      (s.side x).accept s.timeBase number values := by rw [onLink_side, onSide_side_same]
  refine Good.calm (t := (s.onSide x fun d => d.accept s.timeBase number values).onLink x (·.handEnd .standalone))
    ⟨(Apart.onSide _).trans (Calm.onLink x x _ _).apart, ?_⟩
    ((Calm.of_beside (settle_beside _ x before)).trans (startEgress_calm _ x _ _ _ _))
  rw [hside]
  have hnone : ((s.side x).accept s.timeBase number values).pipe.waiting = none := hw
  exact (receiverSound_iff hnone).mpr fun _ => ⟨rfl, rfl, Nat.zero_le _, Nat.le_refl 0⟩

theorem judgeStart_good (hw : (s.side x).pipe.waiting = none) (body : List Byte) :
    Good x s (judgeStart s x body) := by
  have hdiscarding : ∀ e : SideState, e.recv.state = .discarding → e.pipe.waiting = none → e.ReceiverSound :=
    fun e he hn => (quiet_of_none (by rw [he]; exact RecvState.noConfusion) hn).sound
  have htake := takeDevelop_still (s.side x)
  unfold judgeStart
  dsimp only
  split
  · refine ⟨Apart.onSide _, ?_⟩
    rw [onSide_side_same]
    exact hdiscarding _ rfl hw
  · split
    · refine (acceptFrame_good ?_ _ _ _).after (Apart.onSide _)
      rw [onSide_side_same, htake.waiting, hw]
    · rw [onSide_onSide]
      refine Good.calm ⟨Apart.onSide _, ?_⟩ (Calm.of_beside (settle_beside _ x _))
      rw [onSide_side_same]
      exact hdiscarding _ rfl (htake.waiting.trans hw)

/-! ## The handling of a cell, and an expiry (R10, R17, R21) -/

/-- A frame in which lines have been filled. -/
theorem filled_frame {y k : Nat} (h : InFrame d y) (hk : y + k ≤ d.frameHeight) (w : Option Waiting) :
    InFrame ((d.filled y k).setWaiting w) (y + k) := by
  have hcount := h.counted
  exact ⟨h.state, h.source, hk, by simp only [setWaiting_recv, SideState.filled]; omega⟩

/-- Lines are filled up to a line of the frame: either one of them waits and the invariant holds, or all of them have
been handed on and what comes behind them must establish it. -/
theorem fillThen_good {after : Nat → After} {y stop : Nat} {finish : State → State} (hw : (s.side x).pipe.waiting = none)
    (hframe : InFrame (s.side x) y) (hy : y ≤ stop) (hstop : stop ≤ (s.side x).frameHeight)
    (hwait : ∀ z line d, z ≤ stop → InFrame d z → d.frameHeight = (s.side x).frameHeight →
      d.pipe.waiting = some ⟨line, after z⟩ → d.ReceiverSound)
    (hfinish : ∀ t, InFrame (t.side x) stop → (t.side x).pipe.waiting = none →
      (t.side x).pipe.values = (s.side x).pipe.values → Good x t (finish t)) :
    Good x s (fillThen s x after y stop finish) := by
  obtain ⟨k, hk, w, hside, hapart, hend⟩ := fillLines_outcome after (stop - y) y s hw
  have hin := filled_frame hframe (k := k) (by omega) w
  unfold fillThen
  dsimp only
  rw [← hside] at hin
  have hwaiting : ((fillLines x after (stop - y) y s).side x).pipe.waiting = w := by rw [hside, setWaiting_waiting]
  have hvalues : ((fillLines x after (stop - y) y s).side x).pipe.values = (s.side x).pipe.values := by rw [hside]; rfl
  have hheight : ((fillLines x after (stop - y) y s).side x).frameHeight = (s.side x).frameHeight := by
    rw [SideState.frameHeight, Pipeline.inUse, hvalues]
    rfl
  rcases hend with ⟨rfl, rfl⟩ | ⟨line, rfl⟩
  · rw [waits_eq_false hwaiting, if_neg Bool.false_ne_true]
    rw [Nat.add_sub_cancel' hy] at hin
    exact (hfinish _ hin hwaiting hvalues).after hapart
  · have hwaits : waits (fillLines x after (stop - y) y s) x = true := by rw [waits, hwaiting]; rfl
    rw [if_pos hwaits]
    exact ⟨hapart, hwait (y + k) line _ (by omega) hin hheight hwaiting⟩

theorem fillStop_height {e : SideState} (c : CameraCell) (h : e.pipe.values = d.pipe.values) :
    e.fillStop c = d.fillStop c :=
  fillStop_congr c (by rw [SideState.frameHeight, Pipeline.inUse, h]; rfl)

theorem fillStop_le {c : CameraCell} (hstatus : c.kind ≠ .status) (hline : c.kind = .line → d.fillStop c < d.frameHeight) :
    d.fillStop c ≤ d.frameHeight := by
  cases hk : c.kind with
  | line => exact (hline hk).le
  | frameStart => rw [SideState.fillStop, hk]
  | frameEnd => rw [SideState.fillStop, hk]
  | status => exact absurd hk hstatus

theorem finishCell_good {c : CameraCell} (hframe : InFrame (s.side x) ((s.side x).fillStop c))
    (hw : (s.side x).pipe.waiting = none) (hstatus : c.kind ≠ .status)
    (hline : c.kind = .line → (s.side x).fillStop c < (s.side x).frameHeight) : Good x s (finishCell s x c) := by
  obtain ⟨hapart, hstate, hwaiting⟩ := endFrame_recv s x
  have hnone : ((endFrame s x).side x).pipe.waiting = none := hwaiting.trans hw
  unfold finishCell
  cases hk : c.kind with
  | line =>
    have hstop : (s.side x).fillStop c = lineNumber c.body := by rw [SideState.fillStop, hk]
    rw [hstop] at hframe hline
    exact handLast_good (ownLine_frame hframe (hline hk)) hw
  | frameEnd => exact ⟨hapart, (quiet_of_none (not_receiving_of_waitStart hstate) hnone).sound⟩
  | frameStart =>
    have hswap := swapIfPending_calm (endFrame s x) x
    exact (judgeStart_good (hswap.still.waiting.trans hnone) _).after (hapart.trans hswap.apart)
  | status => exact absurd hk hstatus

theorem handleFrom_good {c : CameraCell} {y : Nat} (hw : (s.side x).pipe.waiting = none)
    (hframe : InFrame (s.side x) y) (hy : y ≤ (s.side x).fillStop c) (hstatus : c.kind ≠ .status)
    (hline : c.kind = .line → (s.side x).fillStop c < (s.side x).frameHeight) : Good x s (handleFrom s x c y) := by
  refine fillThen_good hw hframe hy (fillStop_le hstatus hline) (fun z line d hz hin hheight hwait => ?_)
    fun t hin hnone hvalues => ?_
  · have hstop := fillStop_congr c hheight
    refine ⟨fun _ => ?_, ?_⟩
    · rw [SideState.reached, hwait]
      exact ⟨hin.source, hin.within, hin.counted⟩
    · rw [SideState.waitingSound, hwait]
      have hlate : c.kind ≠ .line ∨ d.fillStop c < d.frameHeight := by
        rw [hstop, hheight]
        exact or_iff_not_imp_left.mpr fun hk => hline (not_not.mp hk)
      rw [← hstop] at hz
      simpa [hin.state, hz, hstatus] using hlate
  · have hstop := fillStop_height c hvalues
    rw [← hstop] at hin
    refine finishCell_good hin hnone hstatus fun hk => ?_
    rw [hstop, SideState.frameHeight, Pipeline.inUse, hvalues]
    exact hline hk

theorem expireFrom_good {y : Nat} (hw : (s.side x).pipe.waiting = none) (hframe : InFrame (s.side x) y) :
    Good x s (expireFrom s x y) := by
  refine fillThen_good hw hframe hframe.within (Nat.le_refl _) (fun z line d hz hin hheight hwait => ⟨fun _ => ?_, ?_⟩)
    fun t _ hnone _ => ?_
  · rw [SideState.reached, hwait]
    exact ⟨hin.source, hin.within, hin.counted⟩
  · rw [SideState.waitingSound, hwait]
    simp only [hin.state, hin.within, decide_true, Bool.and_self]
  · obtain ⟨hapart, hstate, hwaiting⟩ := endAbandoned_recv t x
    obtain ⟨hlost, hrecv, hpipe⟩ := linkLost_recv (endAbandoned t x) x
    refine ⟨hapart.trans hlost, (quiet_of_none (not_receiving_of_waitStart ?_) ?_).sound⟩
    · rw [hrecv, hstate]
    · rw [hpipe, hwaiting, hnone]

theorem linkLost_good (hs : (s.side x).ReceiverSound) (hstate : (s.side x).recv.state ≠ .receiving) :
    Good x s (linkLost s x) := by
  obtain ⟨hapart, hrecv, hpipe⟩ := linkLost_recv s x
  exact ⟨hapart, (quiet_congr hs hstate (by rw [hrecv]; exact hstate) (by rw [hpipe])).sound⟩

/-- An expiry of the frame timeout while no line waits (R21, R215). -/
theorem expireFrameTimeout_good (hs : (s.side x).ReceiverSound) (hw : (s.side x).pipe.waiting = none) :
    Good x s (expireFrameTimeout s x) := by
  unfold expireFrameTimeout
  split
  · rename_i hstate
    exact expireFrom_good hw ((receiverSound_iff hw).mp hs hstate)
  · rename_i hstate
    exact linkLost_good hs hstate

/-! ## The cells of the camera link (R3 to R17) -/

section
variable (hs : (s.side x).ReceiverSound) (hw : (s.side x).pipe.waiting = none)
include hs hw

theorem takeFrameStart_good (body : List Byte) : Good x s (takeFrameStart s x body) := by
  unfold takeFrameStart
  split
  · split
    · rename_i hstate
      have hframe := (receiverSound_iff hw).mp hs hstate
      exact handleFrom_good hw hframe hframe.within nofun nofun
    · have hswap := swapIfPending_calm s x
      exact (judgeStart_good (hswap.still.waiting.trans hw) body).after hswap.apart
  · exact (Calm.refl x s).good hs

theorem takeLine_good (body : List Byte) : Good x s (takeLine s x body) := by
  have hcount : Good x s (s.onSide x SideState.countDiscarded) :=
    (Calm.onSide ⟨rfl, rfl, rfl, rfl, rfl, rfl, rfl⟩).good hs
  unfold takeLine
  dsimp only
  split
  · exact (Calm.refl x s).good hs
  · rename_i hstate
    rw [not_not] at hstate
    have hframe := (receiverSound_iff hw).mp hs hstate
    split
    · exact hcount
    · rename_i hn
      split
      · split
        · exact hcount
        · rename_i hk
          rw [not_or, Nat.not_lt, Nat.not_le] at hk
          exact handleFrom_good hw hframe hk.1 nofun fun _ => hk.2
      · obtain ⟨hline, hpipe⟩ := damagedLine_frame (body := body) hframe (Nat.not_le.mp hn)
        exact handLast_good hline (by rw [hpipe, hw])

theorem takeFrameEnd_good (body : List Byte) : Good x s (takeFrameEnd s x body) := by
  unfold takeFrameEnd
  split
  · split
    · rename_i hstate
      have hframe := (receiverSound_iff hw).mp hs hstate
      exact handleFrom_good hw hframe hframe.within nofun nofun
    · rename_i hstate
      refine ⟨Apart.onSide _, ?_⟩
      rw [onSide_side_same]
      exact (quiet_of_none (d := (s.side x).setRecv .waitStart) (not_receiving_of_waitStart rfl) hw).sound
    · exact (Calm.refl x s).good hs
  · exact (Calm.refl x s).good hs

theorem takeCell_good (c : CameraCell) : Good x s (takeCell s x c) := by
  unfold takeCell
  split
  · exact takeFrameStart_good hs hw c.body
  · exact takeLine_good hs hw c.body
  · exact takeFrameEnd_good hs hw c.body
  · exact (Calm.settle (statusCell_still _ _) _).good hs

end

theorem arrive_good (hs : (s.side x).ReceiverSound) (c : CameraCell) : Good x s (arrive s x c) := by
  unfold arrive
  split
  · exact (Calm.onSide ⟨rfl, rfl, rfl, rfl, rfl, rfl, rfl⟩).good hs
  · rename_i hw
    exact takeCell_good hs (waiting_of_waits hw) c

theorem arriveAll_good (x : Side) : ∀ (cells : List CameraCell) (s : State), (s.side x).ReceiverSound →
    Good x s (arriveAll s x cells)
  | [], s, hs => (Calm.refl x s).good hs
  | c :: rest, s, hs => by
    have h1 := arrive_good hs c
    exact (arriveAll_good x rest _ h1.sound).after h1.apart

theorem takeHeld_good (hs : (s.side x).ReceiverSound) : Good x s (takeHeld s x) := by
  have hrelease : Calm x s (s.onSide x SideState.releaseHeld) := Calm.onSide ⟨rfl, rfl, rfl, rfl, rfl, rfl, rfl⟩
  exact (arriveAll_good x _ _ (hrelease.good hs).sound).after hrelease.apart

end

end Sys2Proof.Receiving
end

section
/-! What every command keeps of the receivers. -/

namespace Sys2Proof.Receiving

open Sys2Proof Sys2Proof.Machine Sys2Proof.Invariants Sys2Proof.SettingsStore Sys2Proof.TableBanks

/-- Both receivers are as they were. -/
def Untouched (s t : State) : Prop := ∀ y, Still (s.side y) (t.side y)

/-- The invariant of the receivers holds. -/
def AllSound (s : State) : Prop := ∀ y, (s.side y).ReceiverSound

/-- The invariant of the receivers is kept. -/
def Keeps (s t : State) : Prop := AllSound s → AllSound t

section
variable {s t u : State} {x y z : Side} {d : SideState}

theorem Untouched.refl (s : State) : Untouched s s := fun _ => Still.refl _

theorem Untouched.trans (h : Untouched s t) (k : Untouched t u) : Untouched s u := fun y => (h y).trans (k y)

theorem Calm.untouched (h : Calm x s t) : Untouched s t := fun y => by
  by_cases hy : y = x
  · subst hy
    exact h.still
  · rw [h.apart y hy]
    exact Still.refl _

theorem Untouched.of_sides (h : ∀ y, t.side y = s.side y) : Untouched s t := fun y => by
  rw [h]
  exact Still.refl _

theorem Untouched.onSide {f : SideState → SideState} (h : Still (s.side x) (f (s.side x))) :
    Untouched s (s.onSide x f) := (Calm.onSide h).untouched

theorem Untouched.settle {f : SideState → SideState} (h : Still (s.side x) (f (s.side x))) (before : Conditions) :
    Untouched s (settle (s.onSide x f) x before) := (Calm.settle h before).untouched

theorem Untouched.onLink (s : State) (x : Side) (f : LinkState → LinkState) : Untouched s (s.onLink x f) :=
  Untouched.of_sides fun _ => onLink_side _ _ _ _

theorem Untouched.respond (h : Untouched s t) (z : Side) (r : Response) : Untouched s (respond t z r) :=
  h.trans (Untouched.onLink t z _)

theorem refuse_untouched (s : State) (z : Side) (c : RefusalCode) : Untouched s (refuse s z c) :=
  (Untouched.refl s).respond z _

theorem takeRequest_untouched (s : State) (z : Side) : Untouched s (takeRequest s z) := Untouched.onLink s z _

theorem Untouched.keeps (h : Untouched s t) : Keeps s t := fun hs y => (h y).sound (hs y)

theorem Keeps.refl (s : State) : Keeps s s := id

theorem Keeps.trans (h : Keeps s t) (k : Keeps t u) : Keeps s u := k ∘ h

/-- An operation of one side that keeps the invariant of its receiver. -/
theorem Keeps.of_good (h : (s.side x).ReceiverSound → Good x s t) : Keeps s t := fun hs y => by
  by_cases hy : y = x
  · subst hy
    exact (h (hs y)).sound
  · rw [(h (hs x)).apart y hy]
    exact hs y

/-! ## SIDE RESTART (R27, R196) -/

/-- A side with no cell and no expiry in handling: no line waits, or one that a SIDE RESTART has left. -/
theorem waiting_of_idle (h : handlingCell s x = false) : (s.side x).pipe.waiting = none ∨
    ∃ line r, (s.side x).pipe.waiting = some ⟨line, .abandoned r⟩ := by
  unfold handlingCell at h
  cases hw : (s.side x).pipe.waiting with
  | none => exact .inl rfl
  | some w =>
    obtain ⟨line, after⟩ := w
    rw [hw] at h
    cases after with
    | handled => cases h
    | cell y c => cases h
    | expiry y => cases h
    | abandoned r => exact .inr ⟨line, r, rfl⟩

theorem abandonFrame_quiet (hs : (s.side x).ReceiverSound) (hidle : handlingCell s x = false) :
    Apart x s (abandonFrame s x) ∧ Quiet ((abandonFrame s x).side x) := by
  unfold abandonFrame
  dsimp only
  split
  · rename_i hstate
    have hnone : (s.side x).pipe.waiting = none := by
      rcases waiting_of_idle hidle with h | ⟨line, r, h⟩
      · exact h
      · have hw := hs.2
        rw [SideState.waitingSound, h] at hw
        exact absurd hstate (of_decide_eq_true hw)
    obtain ⟨k, -, w, hside, hapart, hend⟩ := fillLines_outcome (fun y => .abandoned ((s.side x).remainder y))
      ((s.side x).frameHeight - (s.side x).recv.expected) (s.side x).recv.expected s hnone
    generalize fillLines x _ _ _ s = s1 at hside hapart ⊢
    obtain ⟨hapart2, hrecv, hwaiting⟩ := endAbandoned_recv s1 x
    refine ⟨hapart.trans hapart2, not_receiving_of_waitStart hrecv, ?_⟩
    rw [hside, setWaiting_waiting] at hwaiting
    rw [SideState.waitingSound, hwaiting]
    rcases hend with ⟨rfl, -⟩ | ⟨line, rfl⟩
    · rfl
    · exact decide_eq_true (not_receiving_of_waitStart hrecv)
  · rename_i hstate
    exact ⟨Apart.refl x s, hstate, hs.2⟩

theorem abortOperation_calm (s : State) (y : Side) : Calm y s (abortOperation s y) := by
  unfold abortOperation
  dsimp only
  split
  · exact Calm.onSide ⟨rfl, rfl, rfl, rfl, rfl, rfl, rfl⟩
  · exact (Calm.onLink y _ s _).trans (Calm.onSide ⟨rfl, rfl, rfl, rfl, rfl, rfl, rfl⟩)

theorem restarted_recv (d : SideState) :
    (restarted d).recv.state = .waitStart ∧ (restarted d).pipe.waiting = d.pipe.waiting := by
  unfold restarted SideState.restartValues
  rw [findFailed_frame]
  exact ⟨rfl, rfl⟩

theorem restartSide_good (hs : (s.side y).ReceiverSound) (hidle : handlingCell s y = false) :
    Good y s (restartSide s y) := by
  rw [restartSide_eq]
  have habort := abortOperation_calm s y
  have hidle1 : handlingCell (abortOperation s y) y = false := by rw [handlingCell, habort.still.waiting]; exact hidle
  obtain ⟨hapart, hquiet⟩ := abandonFrame_quiet (habort.still.sound hs) hidle1
  generalize abandonFrame (abortOperation s y) y = s1 at hapart hquiet
  obtain ⟨hrecv, hwaiting⟩ := restarted_recv (s1.side y)
  have hrestarted : Good y s (s1.onSide y restarted) := by
    refine ⟨(habort.apart.trans hapart).trans (Apart.onSide _), ?_⟩
    rw [onSide_side_same]
    exact (quiet_congr hquiet.sound hquiet.state (not_receiving_of_waitStart hrecv) hwaiting).sound
  exact hrestarted.calm (Calm.of_beside ((judgeRestoration_beside _ y).trans
    ((evaluate_beside _ y).trans (setGuard_beside _ y _ _ _))))

/-- A SIDE RESTART that need not wait for a cell in handling. -/
theorem doSideRestart_keeps (r : Request) (hidle : ∀ y, r.names = some y → handlingCell s y = false) :
    Keeps s (doSideRestart s z r) := by
  unfold doSideRestart
  cases hn : r.names with
  | none => exact ((Untouched.refl s).respond z _).keeps
  | some y => exact (Keeps.of_good fun hs => restartSide_good hs (hidle y hn)).trans (Untouched.onLink _ z _).keeps

theorem handlingCell_congr (h : Untouched s t) (y : Side) : handlingCell t y = handlingCell s y := by
  unfold handlingCell
  rw [(h y).waiting]

theorem doSideRestart_good {r : Request} (hs : (s.side y).ReceiverSound) (hn : r.names = some y)
    (hidle : handlingCell s y = false) : Good y s (doSideRestart s z r) := by
  unfold doSideRestart
  rw [hn]
  exact (restartSide_good hs hidle).calm (Calm.onLink y z _ _)

theorem execSideRestart_keeps {o : State} (h : execSideRestart z s = .next o) : Keeps s o := by
  unfold execSideRestart taken at h
  split at h
  · obtain rfl := Host.Outcome.next.inj h
    exact Keeps.refl s
  · rename_i hwaits
    unfold restartWaits at hwaits
    split at h
    · obtain rfl := Host.Outcome.next.inj h
      exact Keeps.refl s
    · rename_i r hhead
      obtain rfl := Host.Outcome.next.inj h
      refine (takeRequest_untouched s z).keeps.trans (doSideRestart_keeps r fun y hy => ?_)
      simp only [hhead, hy] at hwaits
      rw [handlingCell_congr (takeRequest_untouched s z)]
      exact Bool.eq_false_iff.mpr hwaits

/-! ## The delivery of a waiting line (R174) -/

/-- The lines that a SIDE RESTART has left leave their side outside a frame. -/
theorem deliverRemainder_good (x : Side) : ∀ (count : Nat) (r : Remainder) (s : State),
    (s.side x).recv.state ≠ .receiving → (s.side x).pipe.waiting = none → Good x s (deliverRemainder x count r s)
  | 0, r, s, hstate, hw => ⟨Apart.refl x s, (quiet_of_none hstate hw).sound⟩
  | count + 1, r, s, hstate, hw => by
    have hd := deliver_beside s x r.line (.abandoned r.advance)
    have hside := side_of_delivery (besideDelivery_side hd)
    have hrecv : ((deliver s x r.line (.abandoned r.advance)).side x).recv.state ≠ .receiving := by
      rw [hside]
      exact hstate
    rw [deliverRemainder]
    split
    · rename_i hwaits
      refine ⟨Apart.of_delivery hd, Quiet.sound ⟨hrecv, ?_⟩⟩
      have hwait : ((deliver s x r.line (.abandoned r.advance)).side x).pipe.waiting =
          some ⟨r.line, .abandoned r.advance⟩ := by
        unfold deliver at hwaits ⊢
        split at hwaits <;> rename_i hroom
        · rw [waits, besideEgress_side (enterBuffer_beside _ x _), hw] at hwaits
          cases hwaits
        · rw [if_neg hroom, onSide_side_same, setWaiting_waiting]
      rw [SideState.waitingSound, hwait]
      exact decide_eq_true hrecv
    · rename_i hwaits
      exact (deliverRemainder_good x count r.advance _ hrecv (waiting_of_waits hwaits)).after (Apart.of_delivery hd)

/-- The delivered line leaves the rest of what it belongs to to go on. -/
theorem resume_good {w : Waiting} (hs : (s.side x).ReceiverSound) (hw : (s.side x).pipe.waiting = some w) :
    Good x s (resume (deliverWaiting s x w.line) x w.after) := by
  have hside : (deliverWaiting s x w.line).side x = (s.side x).setWaiting none := by
    rw [deliverWaiting, besideEgress_side (enterBuffer_beside _ x _), onSide_side_same]
  have hapart : Apart x s (deliverWaiting s x w.line) := Apart.of_delivery (deliverWaiting_beside s x _)
  generalize deliverWaiting s x w.line = s1 at hside hapart
  have hnone : (s1.side x).pipe.waiting = none := by rw [hside, setWaiting_waiting]
  have hheight : (s1.side x).frameHeight = (s.side x).frameHeight := by rw [hside]; rfl
  obtain ⟨hframe, hwait⟩ := hs
  obtain ⟨line, after⟩ := w
  rw [SideState.waitingSound, hw] at hwait
  rw [SideState.reached, hw] at hframe
  refine Good.after ?_ hapart
  have hin : ∀ y, (s.side x).recv.state = .receiving →
      ((s.side x).recv.state = .receiving → (s.side x).source = .follow ∧ y ≤ (s.side x).frameHeight ∧
        (s.side x).recv.damaged + (s.side x).recv.missing ≤ y) → InFrame (s1.side x) y := fun y hr h => by
    obtain ⟨hsource, hwithin, hcount⟩ := h hr
    rw [hside]
    exact ⟨hr, hsource, hwithin, hcount⟩
  cases after with
  | handled =>
    refine ⟨Apart.refl x s1, (receiverSound_iff hnone).mpr fun hr => ?_⟩
    rw [hside] at hr ⊢
    have h := hin _ hr hframe
    rw [hside] at h
    exact h
  | cell y c =>
    simp only [Bool.and_eq_true, Bool.or_eq_true, decide_eq_true_eq] at hwait
    obtain ⟨⟨⟨hr, hstatus⟩, hy⟩, hline⟩ := hwait
    have hstop := fillStop_congr c hheight
    refine handleFrom_good hnone (hin y hr hframe) (by rw [hstop]; exact hy) hstatus fun hk => ?_
    rw [hstop, hheight]
    exact hline.resolve_left (not_not.mpr hk)
  | expiry y =>
    simp only [Bool.and_eq_true, decide_eq_true_eq] at hwait
    exact expireFrom_good hnone (hin y hwait.1 hframe)
  | abandoned r =>
    refine deliverRemainder_good x _ r s1 ?_ hnone
    rw [hside]
    exact of_decide_eq_true hwait

theorem takeWaitingExpiry_good (hs : (s.side x).ReceiverSound) (hw : (s.side x).pipe.waiting = none) :
    Good x s (takeWaitingExpiry s x) := by
  unfold takeWaitingExpiry
  split
  · exact expireFrameTimeout_good hs hw
  · exact (Calm.refl x s).good hs

theorem takeWaitingRestart_good (hs : (s.side x).ReceiverSound) (z : Side) : Good x s (takeWaitingRestart s x z) := by
  unfold takeWaitingRestart
  split
  · exact (Calm.refl x s).good hs
  · split
    · rename_i r _ hr
      obtain ⟨hn, hidle⟩ := hr
      have htake := Calm.onLink x z s fun l => { l with requests := l.requests.drop 1 }
      refine (doSideRestart_good (htake.still.sound hs) hn ?_).after htake.apart
      exact (handlingCell_congr (takeRequest_untouched s z) x).trans hidle
    · exact (Calm.refl x s).good hs

theorem takeWaitingEvents_good (hs : (s.side x).ReceiverSound) (hw : (s.side x).pipe.waiting = none) :
    Good x s (takeWaitingEvents s x) := by
  have h1 := takeWaitingExpiry_good hs hw
  have h2 := takeWaitingRestart_good h1.sound .a
  exact ((takeWaitingRestart_good h2.sound .b).after h2.apart).after h1.apart

theorem finishHandling_good (hs : (s.side x).ReceiverSound) (hw : (s.side x).pipe.waiting = none) (a : After) :
    Good x s (finishHandling s x a) := by
  have hevents := takeWaitingEvents_good hs hw
  have hall : Good x s (takeHeld (takeWaitingEvents s x) x) := (takeHeld_good hevents.sound).after hevents.apart
  unfold finishHandling
  split
  · exact hall
  · exact hall
  · exact hall
  · exact takeHeld_good hs

theorem deliverAndGoOn_good {w : Waiting} (hs : (s.side x).ReceiverSound) (hw : (s.side x).pipe.waiting = some w) :
    Good x s (deliverAndGoOn s x w) := by
  have h := resume_good hs hw
  unfold deliverAndGoOn
  dsimp only
  split
  · exact h
  · rename_i hwaits
    exact (finishHandling_good h.sound (waiting_of_waits hwaits) w.after).after h.apart

/-! ## Requests, copies and a standalone frame start -/

theorem doWriteSettings_untouched (r : Request) : Untouched s (doWriteSettings s z r) := by
  unfold doWriteSettings
  split
  · exact refuse_untouched s z _
  · rename_i y hn
    split
    · exact refuse_untouched s z _
    · split
      · refine Untouched.respond ?_ z _
        rw [writeSettings_eq]
        have hwritten : Calm y s (written s y r.id.toNat (payloadWords r.payload)) := by
          obtain ⟨_, _, _, _, hall⟩ := writtenAll_frame r.id.toNat (payloadWords r.payload) s y
          refine ⟨fun _ hy => written_side_other s _ _ hy, ?_⟩
          rw [written_side, hall]
          exact ⟨rfl, rfl, rfl, rfl, rfl, rfl, rfl⟩
        exact (hwritten.trans (Calm.of_beside ((modeEffect_beside _ y _).trans (groupEffect_beside _ y _ _)))).untouched
      · exact refuse_untouched s z _

theorem acknowledgeSide_untouched (o : Option Side) (sel : Byte) : Untouched s (acknowledgeSide s o sel) := by
  cases o with
  | none => exact Untouched.refl s
  | some y => exact Untouched.onSide ⟨rfl, rfl, rfl, rfl, rfl, rfl, rfl⟩

theorem copyNext_still (d : SideState) : Still d d.copyNext := by
  rw [copyNext_frame]
  exact ⟨rfl, rfl, rfl, rfl, rfl, rfl, rfl⟩

theorem copyMany_still (n : Nat) (d : SideState) : Still d (SideState.copyMany n d) := by
  rw [copyMany_frame]
  exact ⟨rfl, rfl, rfl, rfl, rfl, rfl, rfl⟩

/-- A standalone frame start takes its values outside a frame, as the source then says. -/
theorem startStandalone_good (hs : (s.side x).ReceiverSound) (hsource : (s.side x).source = .standalone) :
    Good x s (startStandalone s x) := by
  have hstate : (s.side x).recv.state ≠ .receiving := fun hr => by
    have hfollow := (hs.1 hr).1
    rw [hsource] at hfollow
    cases hfollow
  unfold startStandalone
  dsimp only
  have hcalm : Calm x s ((guardStep ((swapIfPending s x).onSide x fun d =>
      { d with standaloneDue := false, periodTimer := some s.timeBase }) x).onSide x SideState.takeInUse) :=
    ((swapIfPending_calm s x).trans (Calm.onSide ⟨rfl, rfl, rfl, rfl, rfl, rfl, rfl⟩)).trans
      ((Calm.of_beside (guardStep_beside _ x)).trans
        (Calm.onSide (f := SideState.takeInUse) ⟨rfl, rfl, rfl, rfl, rfl, rfl, rfl⟩))
  generalize ((guardStep ((swapIfPending s x).onSide x fun d =>
      { d with standaloneDue := false, periodTimer := some s.timeBase }) x).onSide x SideState.takeInUse) = s3 at hcalm ⊢
  have htake : (s3.side x).takeStandalone.recv.state = (s3.side x).recv.state ∧
      (s3.side x).takeStandalone.pipe.waiting = (s3.side x).pipe.waiting := by
    unfold SideState.takeStandalone
    split
    · exact ⟨rfl, rfl⟩
    · have hstill := takeDevelop_still (s3.side x)
      exact ⟨hstill.state, hstill.waiting⟩
  have htaken : Good x s (s3.onSide x SideState.takeStandalone) := by
    refine ⟨hcalm.apart.trans (Apart.onSide _), ?_⟩
    rw [onSide_side_same]
    refine (quiet_congr hs hstate ?_ (htake.2.trans hcalm.still.waiting)).sound
    rw [htake.1, hcalm.still.state]
    exact hstate
  exact htaken.calm ((Calm.of_sides (beginEgressFrame_side _ x _ _ _ _)).trans (Calm.of_beside (settle_beside _ x _)))

end

end Sys2Proof.Receiving
end

section
/-! The step lemma of the source, the frame timeout and the receivers. -/

namespace Sys2Proof.Receiving

open Sys2Proof Sys2Proof.Machine Sys2Proof.Invariants Sys2Proof.TableBanks

section
variable {s t : State} {x : Side}

/-- A command that acts only while RESET is not held low. -/
theorem keeps_unheld {u : State} (h : (if s.resetHeld then .next s else .next u : Host.Outcome State Fault Refusal) =
    .next t) (hu : Keeps s u) : Keeps s t := by
  split at h <;> obtain rfl := Host.Outcome.next.inj h
  · exact Keeps.refl s
  · exact hu

/-- A command that acts only while RESET is not held low, and where its event can take place. -/
theorem keeps_due {c : Prop} [Decidable c] {u : State}
    (h : (if s.resetHeld then .next s else if c then .next u else .next s : Host.Outcome State Fault Refusal) = .next t)
    (hu : c → Keeps s u) : Keeps s t := by
  split at h
  · obtain rfl := Host.Outcome.next.inj h
    exact Keeps.refl s
  · split at h <;> obtain rfl := Host.Outcome.next.inj h
    · exact hu ‹_›
    · exact Keeps.refl s

/-- A command that takes a request. -/
theorem keeps_taken {k : RequestKind} {run : State → Side → Request → State}
    (h : taken s x k run = .next t) (hu : ∀ u r, Keeps u (run u x r)) : Keeps s t := by
  unfold taken at h
  split at h <;> obtain rfl := Host.Outcome.next.inj h
  · exact Keeps.refl s
  · exact (takeRequest_untouched s x).keeps.trans (hu _ _)

theorem still_rfl {d e : SideState} (hr : e.recv = d.recv) (hs : e.source = d.source) (hp : e.pipe = d.pipe) :
    Still d e := by
  constructor <;> simp only [hr, hs, hp]

theorem resetAs_allSound (s : State) (cause : Cause) (timer : Option Time) (due held : Bool) :
    AllSound (resetAs s cause timer due held) := fun y => by
  rw [resetAs_side]
  exact ⟨nofun, rfl⟩

theorem execCopyCompletion_keeps (h : execCopyCompletion x s = .next t) : Keeps s t := by
  unfold execCopyCompletion at h
  split at h
  · obtain rfl := Host.Outcome.next.inj h
    exact Keeps.refl s
  · split at h
    · split at h <;> obtain rfl := Host.Outcome.next.inj h
      · refine (Untouched.trans ?_ (Untouched.onLink _ _ _)).keeps
        refine Untouched.settle (f := fun _ => (SideState.copyMany _ _).endOp) ?_ _
        exact (copyMany_still _ _).trans (still_rfl rfl rfl rfl)
      · exact Keeps.refl s
    · obtain rfl := Host.Outcome.next.inj h
      exact Keeps.refl s

theorem execCheckCompletion_keeps (h : execCheckCompletion x s = .next t) : Keeps s t := by
  unfold execCheckCompletion at h
  split at h
  · obtain rfl := Host.Outcome.next.inj h
    exact Keeps.refl s
  · split at h
    · split at h <;> obtain rfl := Host.Outcome.next.inj h
      · exact (Untouched.trans (Untouched.onSide (x := x) (still_rfl rfl rfl rfl)) (Untouched.onLink _ _ _)).keeps
      · exact Keeps.refl s
    · obtain rfl := Host.Outcome.next.inj h
      exact Keeps.refl s

theorem scrubBatch_still (d : SideState) : Still d d.scrubBatch := by
  unfold SideState.scrubBatch
  generalize scrubWords d.store.scrub = ws
  split
  · exact Still.refl d
  · rw [findFailed_frame]
    exact still_rfl rfl rfl rfl

theorem completeFrameEnd_untouched (s : State) (x : Side) : Untouched s (completeFrameEnd s x) := by
  have hscrub : Untouched s (scrub (s.onLink x fun l => { l.idle with frames := l.frames.drop 1 }) x) :=
    (Untouched.onLink s x _).trans (Untouched.settle (scrubBatch_still _) _)
  have hopen := hscrub.trans (Untouched.onLink _ x fun l => { l with run := some 0 })
  unfold completeFrameEnd
  dsimp only
  split
  · exact hopen
  · exact hopen.trans (Untouched.of_sides fun y => kick_side _ _ y)

/-! ## Requests -/

theorem doRead_untouched (u : State) (x : Side) (r : Request) : Untouched u (doRead u x r) := by
  unfold doRead
  split
  · exact refuse_untouched u x _
  · split
    · exact refuse_untouched u x _
    · split
      · dsimp only
        split
        · exact (Untouched.onSide (still_rfl rfl rfl rfl)).respond x _
        · exact (Untouched.refl u).respond x _
      · exact refuse_untouched u x _

theorem doTableWrite_untouched (u : State) (x : Side) (r : Request) : Untouched u (doTableWrite u x r) := by
  unfold doTableWrite
  split
  · exact refuse_untouched u x _
  · dsimp only
    split
    · exact refuse_untouched u x _
    · split
      · exact refuse_untouched u x _
      · split
        · exact refuse_untouched u x _
        · exact (Untouched.onSide (still_rfl rfl rfl rfl)).respond x _

theorem doTableRead_untouched (u : State) (x : Side) (r : Request) : Untouched u (doTableRead u x r) := by
  unfold doTableRead
  split
  · exact refuse_untouched u x _
  · dsimp only
    split
    · exact refuse_untouched u x _
    · split
      · exact refuse_untouched u x _
      · split
        · exact (Untouched.refl u).respond x _
        · split
          · exact refuse_untouched u x _
          · exact (Untouched.settle (findFailed_still _ _) _).respond x _

theorem doCopyBank_untouched (u : State) (x : Side) (r : Request) : Untouched u (doCopyBank u x r) := by
  unfold doCopyBank
  split
  · exact refuse_untouched u x _
  · split
    · exact refuse_untouched u x _
    · split
      · exact refuse_untouched u x _
      · exact (Untouched.onSide (still_rfl rfl rfl rfl)).trans (Untouched.onLink _ x _)

theorem doCommitBank_untouched (u : State) (x : Side) (r : Request) : Untouched u (doCommitBank u x r) := by
  unfold doCommitBank
  split
  · exact refuse_untouched u x _
  · split
    · exact refuse_untouched u x _
    · exact (Untouched.onSide (still_rfl rfl rfl rfl)).trans (Untouched.onLink _ x _)

theorem doViewRestore_untouched (u : State) (x : Side) (r : Request) : Untouched u (doViewRestore u x r) := by
  unfold doViewRestore
  split
  · exact refuse_untouched u x _
  · split
    · exact (Calm.of_beside (startRestoration_beside u _)).untouched.respond x _
    · exact refuse_untouched u x _

theorem doForceWarning_untouched (u : State) (x : Side) (r : Request) : Untouched u (doForceWarning u x r) := by
  unfold doForceWarning
  split
  · exact (Untouched.refl u).respond x _
  · exact (Untouched.settle (still_rfl rfl rfl rfl) _).respond x _

theorem doCameraPass_untouched (u : State) (x : Side) (r : Request) : Untouched u (doCameraPass u x r) := by
  unfold doCameraPass
  split
  · exact refuse_untouched u x _
  · split
    · exact refuse_untouched u x _
    · split
      · exact refuse_untouched u x _
      · exact (Untouched.onSide (still_rfl rfl rfl rfl)).respond x _

/-- No command breaks the invariant of a receiver. -/
theorem exec_keeps (i : Instr) (h : exec i s = .next t) : Keeps s t := by
  have hself : ∀ {u : State}, (.next u : Host.Outcome State Fault Refusal) = .next t → u = s → Keeps s t :=
    fun hu he => by
      obtain rfl := Host.Outcome.next.inj hu
      rw [he]
      exact Keeps.refl s
  cases i with
  | cameraFrameStart x body => exact keeps_unheld h (Keeps.of_good fun hs => arrive_good hs _)
  | cameraLine x body => exact keeps_unheld h (Keeps.of_good fun hs => arrive_good hs _)
  | cameraFrameEnd x body => exact keeps_unheld h (Keeps.of_good fun hs => arrive_good hs _)
  | cameraStatus x body => exact keeps_unheld h (Keeps.of_good fun hs => arrive_good hs _)
  | cameraUnknownKindCell x kind body => exact hself h rfl
  | frameTimeoutExpiry x =>
    refine keeps_due h fun hdue => Keeps.of_good fun hs => expireFrameTimeout_good hs ?_
    rw [frameTimeoutEnabled, Bool.and_eq_true, Bool.not_eq_true'] at hdue
    exact waiting_of_waits (Bool.eq_false_iff.mp hdue.2)
  | standalonePeriodExpiry x => exact keeps_due h fun _ => (Untouched.onSide (still_rfl rfl rfl rfl)).keeps
  | standaloneFrameStart x =>
    refine keeps_due h fun hdue => Keeps.of_good fun hs => startStandalone_good hs ?_
    simp only [standaloneEnabled, Bool.and_eq_true, decide_eq_true_eq] at hdue
    exact hdue.1.2
  | displayTimeoutExpiry x =>
    exact keeps_due h fun _ => ((Untouched.onLink s x _).trans (Untouched.settle (still_rfl rfl rfl rfl) _)).keeps
  | warnPulseExpiry => exact keeps_due h fun _ => (Calm.of_beside (x := .a) (warnPulseEnd_beside s _)).untouched.keeps
  | copyCompletion x => exact execCopyCompletion_keeps h
  | checkCompletion x => exact execCheckCompletion_keeps h
  | frameEndUpdateCompletion x =>
    change execFrameEndUpdateCompletion x s = .next t at h
    unfold execFrameEndUpdateCompletion at h
    split at h
    · exact hself h rfl
    · split at h
      · exact hself h rfl
      · obtain rfl := Host.Outcome.next.inj h
        refine (Untouched.settle ?_ _).keeps
        unfold SideState.completeUpdate
        split
        · exact still_rfl rfl rfl rfl
        · exact ⟨rfl, rfl, rfl, rfl, rfl, rfl, rfl⟩
  | commandLaneTxCompletion x => exact keeps_unheld h (Untouched.onSide (still_rfl rfl rfl rfl)).keeps
  | egressLineCompletion x => exact keeps_due h fun _ => (Untouched.onLink s x _).keeps
  | egressFrameEndCompletion x => exact keeps_due h fun _ => (completeFrameEnd_untouched s x).keeps
  | egressFrameStartCompletion x =>
    exact keeps_due h fun _ => (Calm.of_egress (completeFrameStart_beside s x)).untouched.keeps
  | insertedCellCompletion x =>
    exact keeps_due h fun _ => (Calm.of_egress (completeInserted_beside s x)).untouched.keeps
  | deferredLineDelivery x =>
    change execDeferredLineDelivery x s = .next t at h
    unfold execDeferredLineDelivery at h
    split at h
    · exact hself h rfl
    · split at h
      · exact hself h rfl
      · rename_i hw
        split at h
        · obtain rfl := Host.Outcome.next.inj h
          exact Keeps.of_good fun hs => deliverAndGoOn_good hs hw
        · exact hself h rfl
  | displayStatus x body =>
    exact keeps_due h fun _ => ((Untouched.onLink s x _).trans (Untouched.settle (still_rfl rfl rfl rfl) _)).keeps
  | request x body =>
    change execRequest x body s = .next t at h
    unfold execRequest at h
    split at h
    · exact hself h rfl
    · split at h <;> obtain rfl := Host.Outcome.next.inj h <;> exact (Untouched.onLink s x _).keeps
  | displayUnknownKindCell x kind body => exact hself h rfl
  | read x => exact keeps_taken h fun u r => (doRead_untouched u x r).keeps
  | writeSettings x => exact keeps_taken h fun u r => (doWriteSettings_untouched r).keeps
  | tableWrite x => exact keeps_taken h fun u r => (doTableWrite_untouched u x r).keeps
  | tableRead x => exact keeps_taken h fun u r => (doTableRead_untouched u x r).keeps
  | copyBank x => exact keeps_taken h fun u r => (doCopyBank_untouched u x r).keeps
  | commitBank x => exact keeps_taken h fun u r => (doCommitBank_untouched u x r).keeps
  | acknowledge x =>
    refine keeps_taken h fun u r => (Untouched.respond ((acknowledgeSide_untouched r.names r.id).trans ?_) x _).keeps
    exact Untouched.of_sides fun y => by cases y <;> rfl
  | viewRestore x => exact keeps_taken h fun u r => (doViewRestore_untouched u x r).keeps
  | forceWarning x => exact keeps_taken h fun u r => (doForceWarning_untouched u x r).keeps
  | warnStop x =>
    exact keeps_taken h fun u r => ((Calm.of_beside (x := .a) (warnPulseEnd_beside u _)).untouched.respond x _).keeps
  | cameraPass x => exact keeps_taken h fun u r => (doCameraPass_untouched u x r).keeps
  | sideRestart x => exact execSideRestart_keeps h
  | partReset x => exact keeps_taken (run := fun u _ _ => resetPart u .request) h fun u _ _ => resetAs_allSound u .request (some 0) true false
  | unknownRequest x => exact keeps_taken (run := fun u y _ => refuse u y .unknown) h fun u _ => (refuse_untouched u x _).keeps
  | resetLow =>
    obtain rfl := Host.Outcome.next.inj h
    exact fun _ => resetAs_allSound s .power none false true
  | resetReleased =>
    change execResetReleased s = .next t at h
    unfold execResetReleased at h
    split at h
    · obtain rfl := Host.Outcome.next.inj h
      exact Untouched.keeps fun y => by cases y <;> exact still_rfl rfl rfl rfl
    · exact hself h rfl
  | parityFailure x bank word value => exact keeps_unheld h (Untouched.onSide (still_rfl rfl rfl rfl)).keeps
  | copyWord x => exact keeps_unheld h (Untouched.settle (copyNext_still _) _).keeps
  | checkWord x => exact keeps_unheld h (Untouched.onSide (still_rfl rfl rfl rfl)).keeps

end

/-- Settles O10: the source and the counts by what every command keeps, the receivers by what each command does to the
frame in progress. -/
theorem linkAndReceiverKept : Obligations.LinkAndReceiverKept := by
  refine ⟨fun _ _ => step_keeps_of_sound (frame_sides (P := SideState.LinkSound)) fun _ _ hs h x =>
      (hs.sides x).link (h x), fun s t h hstep x => ⟨?_, ?_⟩⟩
  · exact step_keeps (frame_sides (P := SideState.ReceiverSound)) (fun i _ _ hexec => exec_keeps i hexec)
      (fun x => (h x).1) hstep x
  · exact step_keeps_of_sound (frame_sides (P := SideState.CountsSound)) (fun _ _ hs h x => (hs.sides x).counts (h x))
      (fun x => (h x).2) hstep x

end Sys2Proof.Receiving
end

section
/-! The RESET pin, and the commands whose effect is one equation. -/

namespace Sys2Proof.PartControl

open Sys2Proof Sys2Proof.Machine

section
variable {s : State} {x : Side}

/-- While RESET is held low no request can be taken (R200). -/
theorem headRequest_held (h : s.resetHeld = true) (x : Side) : headRequest s x = none := by
  unfold headRequest
  rw [h]
  rfl

theorem taken_held (h : s.resetHeld = true) (k : RequestKind) (run : State → Side → Request → State) :
    taken s x k run = .next s := by
  unfold taken headOf
  rw [headRequest_held h]
  rfl

/-- While RESET is held low no command but those of the RESET pin changes anything (R200; log 25). -/
theorem exec_held (i : Instr) (h : s.resetHeld = true) (hi : isResetPin i = false) : exec i s = .next s := by
  cases i with
  | resetLow => cases hi
  | resetReleased => cases hi
  | sideRestart x =>
    show (if restartWaits s x then .next s else taken s x .sideRestart doSideRestart) = _
    rw [taken_held h, ite_self]
  | read x => exact taken_held h _ _
  | writeSettings x => exact taken_held h _ _
  | tableWrite x => exact taken_held h _ _
  | tableRead x => exact taken_held h _ _
  | copyBank x => exact taken_held h _ _
  | commitBank x => exact taken_held h _ _
  | acknowledge x => exact taken_held h _ _
  | viewRestore x => exact taken_held h _ _
  | forceWarning x => exact taken_held h _ _
  | warnStop x => exact taken_held h _ _
  | cameraPass x => exact taken_held h _ _
  | partReset x => exact taken_held h _ fun u _ _ => resetPart u .request
  | unknownRequest x => exact taken_held h _ fun u y _ => refuse u y .unknown
  | cameraUnknownKindCell x kind body => rfl
  | displayUnknownKindCell x kind body => rfl
  | cameraFrameStart x body => exact if_pos h
  | cameraLine x body => exact if_pos h
  | cameraFrameEnd x body => exact if_pos h
  | cameraStatus x body => exact if_pos h
  | frameTimeoutExpiry x => exact if_pos h
  | standalonePeriodExpiry x => exact if_pos h
  | standaloneFrameStart x => exact if_pos h
  | displayTimeoutExpiry x => exact if_pos h
  | warnPulseExpiry => exact if_pos h
  | copyCompletion x => exact if_pos h
  | checkCompletion x => exact if_pos h
  | frameEndUpdateCompletion x => exact if_pos h
  | commandLaneTxCompletion x => exact if_pos h
  | egressLineCompletion x => exact if_pos h
  | egressFrameEndCompletion x => exact if_pos h
  | egressFrameStartCompletion x => exact if_pos h
  | insertedCellCompletion x => exact if_pos h
  | deferredLineDelivery x => exact if_pos h
  | displayStatus x body => exact if_pos h
  | request x body => exact if_pos h
  | parityFailure x bank word value => exact if_pos h
  | copyWord x => exact if_pos h
  | checkWord x => exact if_pos h

end

/-- Settles O4. -/
theorem resetPin : Obligations.ResetPin := by
  refine ⟨fun s => ?_, fun s hs => ?_, fun i s hs hi => exec_held i hs hi⟩
  · exact ⟨_, rfl, rfl, rfl, rfl, rfl, rfl, rfl, rfl, rfl, rfl⟩
  · have hexec : exec .resetReleased s = .next
        { s with
          linkA := s.linkA.startTimer s.timeBase
          linkB := s.linkB.startTimer s.timeBase
          sideA := { s.sideA with standaloneDue := true }
          sideB := { s.sideB with standaloneDue := true }
          resetHeld := false } := if_pos hs
    exact ⟨_, hexec, rfl, rfl, fun x => by cases x <;> rfl, fun x => by cases x <;> rfl, rfl⟩

/-- Settles O21. -/
theorem unknownKindsDiscarded : Obligations.UnknownKindsDiscarded := fun _ _ _ _ => ⟨rfl, rfl⟩

/-- Settles O24. -/
theorem periodExpires : Obligations.PeriodExpires := by
  intro x s hfree
  show (if s.resetHeld then _ else _) = _
  rw [if_neg (Bool.eq_false_iff.mp hfree)]

/-! ## The capture (R30, R31) -/

/-- Settles O22, by the reference and the divider count. -/
theorem captureTaken : Obligations.CaptureTaken := by
  intro d now number values
  refine ⟨fun hnone => ?_, fun r hr hbelow => ?_, fun r hr hreach => ?_⟩
  · have hmeasures : d.timing.measures d.settings.captureDivider = false := by
      rw [Timing.measures, hnone]
      rfl
    refine ⟨?_, ?_⟩
    · simp only [SideState.accept, Timing.capture, hnone]
    · simp only [SideState.accept, SideState.intervalJudged, hmeasures, Bool.false_eq_true, if_false]
  · have hmeasures : d.timing.measures d.settings.captureDivider = false := by
      rw [Timing.measures, decide_eq_false (Nat.not_le.mpr hbelow), Bool.and_false]
    refine ⟨?_, ?_⟩
    · simp only [SideState.accept, Timing.capture, hr, hmeasures, Bool.false_eq_true, if_false]
    · simp only [SideState.accept, SideState.intervalJudged, hmeasures, Bool.false_eq_true, if_false]
  · have hmeasures : d.timing.measures d.settings.captureDivider = true := by
      rw [Timing.measures, hr, decide_eq_true hreach]
      rfl
    have hmeasured : d.timing.measured now d.settings.captureDivider =
        (now - r).toNat / d.settings.captureDivider := by
      rw [Timing.measured, hr]
      rfl
    refine ⟨?_, ?_⟩
    · simp only [SideState.accept, Timing.capture, hr, hmeasures, if_true]
      rw [hmeasured]
    · simp only [SideState.accept, SideState.intervalJudged, hmeasures, if_true, hmeasured, Settings.intervalBad]
      generalize (now - r).toNat / d.settings.captureDivider = interval
      rw [← Bool.decide_or]
      exact decide_eq_decide.mpr (by omega)

end Sys2Proof.PartControl
end

section
/-! What an evaluation and the steps of the guard leave of WARN and of the report-pending flags (R40, R145, R147,
R157). -/

namespace Sys2Proof.Guarding

open Sys2Proof Sys2Proof.Machine

variable (s : State) (x : Side)

/-! ## Reports (R147, R157) -/

/-- A change of a side leaves every report-pending flag, and so does the judging of FAULT. -/
theorem setGuard_report (st : GuardState) (m c : Nat) (z : Side) :
    ((setGuard s x st m c).link z).report x =
      ((s.link z).report x || decide (st ≠ (s.side x).guard.state)) := by
  unfold setGuard
  dsimp only
  split
  · rename_i h
    rw [onSide_link, decide_eq_false (not_not.mpr h.symm), Bool.or_false]
  · rename_i h
    rw [markReports_report, decide_eq_true (Ne.symm h), Bool.or_true]

/-- A report of side x is pending on every link. -/
def Reported (x : Side) (s : State) : Prop := ∀ z, (s.link z).report x = true

theorem reported_markReports : Reported x (markReports s x) := fun z => markReports_report s x z

variable {s x}

theorem Reported.onSide (h : Reported x s) (y : Side) (f : SideState → SideState) : Reported x (s.onSide y f) :=
  fun z => by rw [onSide_link, h z]

theorem Reported.setGuard (h : Reported x s) (st : GuardState) (m c : Nat) : Reported x (setGuard s x st m c) :=
  fun z => by rw [setGuard_report, h z, Bool.true_or]

theorem Reported.warnPulseStart (h : Reported x s) : Reported x (warnPulseStart s) := by
  have hlink : ∀ z, (Machine.warnPulseStart s).link z = s.link z := fun z => by
    unfold Machine.warnPulseStart
    split <;> cases z <;> rfl
  exact fun z => by rw [hlink, h z]

theorem Reported.trip (h : Reported x s) : Reported x (trip s x) := by
  unfold Machine.trip
  dsimp only
  split
  · split <;> exact (h.setGuard _ _ _).warnPulseStart
  · split <;> exact (h.setGuard _ _ _).warnPulseStart
  · exact (h.setGuard _ _ _).warnPulseStart
  · exact h
  · exact h

theorem Reported.startRestoration (h : Reported x s) : Reported x (startRestoration s x) := by
  unfold Machine.startRestoration
  dsimp only
  split <;> exact h.setGuard _ _ _

theorem Reported.judgeReady (h : Reported x s) : Reported x (judgeReady s x) := by
  unfold Machine.judgeReady Machine.judgeRestoration
  dsimp only
  split
  · split
    · exact (h.onSide _ _).startRestoration
    · exact h.onSide _ _
  · exact h.onSide _ _

/-- Once the groups are judged, what follows keeps a report pending. -/
theorem Reported.actOnGroups (h : Reported x s) (b : Bool) : Reported x (actOnGroups s x b) := by
  have hfault : Reported x (judgeFault s) := fun z => by
    have hz := h z
    cases z <;> exact hz
  unfold Machine.actOnGroups
  dsimp only
  split
  · exact hfault.judgeReady.trip
  · exact hfault.judgeReady

/-- An event of level 1 or higher makes a report pending on both links (R135). -/
theorem evaluateFrom_reported (s : State) (x : Side) {old : Groups}
    (h : (old.pairs ((s.side x).groups.map (Group.judge (s.side x).cond.vector))).any reportsEvent = true) :
    Reported x (evaluateFrom s x old) := by
  have hevent : (old.pairs ((s.onSide x SideState.judgeGroups).side x).groups).any reportsEvent = true := by
    rw [onSide_side_same]
    exact h
  unfold evaluateFrom
  dsimp only
  rw [if_pos hevent]
  exact (reported_markReports _ x).actOnGroups _

variable (s x)

/-- A step of the guard into another state makes a report pending, and no other step does (R157). -/
theorem guardStep_report (z : Side) :
    ((guardStep s x).link z).report x =
      ((s.link z).report x || decide (((guardStep s x).side x).guard.state ≠ (s.side x).guard.state)) := by
  have hsame : ∀ t : State, (t.side x).guard.state = (s.side x).guard.state → t.link z = s.link z →
      (t.link z).report x = ((s.link z).report x || decide ((t.side x).guard.state ≠ (s.side x).guard.state)) :=
    fun t h hl => by rw [h, hl, decide_eq_false (not_not.mpr rfl), Bool.or_false]
  have hset : ∀ st m c, ((setGuard s x st m c).link z).report x = ((s.link z).report x ||
      decide (((setGuard s x st m c).side x).guard.state ≠ (s.side x).guard.state)) := fun st m c => by
    rw [setGuard_report, setGuard_guard]
  generalize ht : guardStep s x = t
  unfold guardStep at ht
  dsimp only at ht
  split at ht
  · rename_i h
    split at ht <;> subst ht
    · have hheld : Reported x (setGuard s x .held 64 0) := fun z => by
        rw [setGuard_report, h]
        exact Bool.or_true _
      have hmoved : ((judgeRestoration (setGuard s x .held 64 0) x).side x).guard.state ≠ (s.side x).guard.state := by
        rw [judgeRestoration_guard, h]
        split
        · unfold Restored
          dsimp only
          split <;> exact GuardState.noConfusion
        · rw [setGuard_guard]
          exact GuardState.noConfusion
      rw [decide_eq_true hmoved, Bool.or_true]
      unfold judgeRestoration
      dsimp only
      split
      · exact hheld.startRestoration z
      · exact hheld z
    · exact hset _ _ _
  · split at ht <;> subst ht <;> exact hset _ _ _
  all_goals
    subst ht
    exact hsame _ rfl rfl

/-! ## WARN (R40, R145, R157) -/

theorem warnPulseStart_warn : (warnPulseStart s).warn = true := by
  unfold warnPulseStart
  split
  · assumption
  · rfl

theorem warnPulseStart_warnTimer :
    (warnPulseStart s).warnTimer = if s.warn = false then some s.timeBase else s.warnTimer := by
  unfold warnPulseStart
  cases h : s.warn <;> rfl

/-- A trip that moves the guard starts a WARN pulse if none is in progress (R145, R157). -/
theorem trip_warn : (trip s x).warn = (s.warn || (s.side x).guard.canTrip) ∧
    (trip s x).warnTimer =
      if (s.side x).guard.canTrip = true ∧ s.warn = false then some s.timeBase else s.warnTimer := by
  have hstart : ∀ st m, (warnPulseStart (setGuard s x st m 0)).warn = true ∧
      (warnPulseStart (setGuard s x st m 0)).warnTimer = if s.warn = false then some s.timeBase else s.warnTimer :=
    fun st m => ⟨warnPulseStart_warn _, by
      rw [warnPulseStart_warnTimer, setGuard_warn, setGuard_warnTimer, setGuard_timeBase]⟩
  unfold trip Guard.canTrip
  dsimp only
  cases h : (s.side x).guard.state with
  | fading | held => exact ⟨(Bool.or_false _).symm, (if_neg fun hn => Bool.false_ne_true hn.1).symm⟩
  | waiting =>
    dsimp only
    rw [(hstart _ _).1, (hstart _ _).2, Bool.or_true]
    simp only [true_and, and_self]
  | clear | restoring =>
    dsimp only
    split <;> rw [(hstart _ _).1, (hstart _ _).2, Bool.or_true] <;> simp only [true_and, and_self]

/-- An evaluation starts a WARN pulse exactly by its one trip. -/
theorem evaluateFrom_warn (old : Groups) :
    let d := s.side x
    let new := d.groups.map (Group.judge d.cond.vector)
    let moved := (old.pairs new).any trips && (Readied d.guard d.settings new.restoreReady).canTrip
    (evaluateFrom s x old).warn = (s.warn || moved) ∧
      (evaluateFrom s x old).warnTimer = if moved = true ∧ s.warn = false then some s.timeBase else s.warnTimer := by
  have hmark : ∀ b : Bool, ∀ t : State,
      t = judgeReady (judgeFault (if b then markReports (s.onSide x SideState.judgeGroups) x
        else s.onSide x SideState.judgeGroups)) x → t.warn = s.warn ∧ t.warnTimer = s.warnTimer ∧
        t.timeBase = s.timeBase ∧
        (t.side x).guard = Readied (s.side x).guard (s.side x).settings
          ((s.side x).groups.map (Group.judge (s.side x).cond.vector)).restoreReady := fun b t ht => by
    subst ht
    rw [judgeReady_warn, judgeReady_warnTimer, beside_timeBase (judgeReady_beside _ x), judgeReady_guard,
      judgeFault_side]
    cases b <;> simp [judgeFault, SideState.judgeGroups]
  dsimp only
  unfold evaluateFrom actOnGroups
  dsimp only
  rw [onSide_side_same]
  obtain ⟨hwarn, htimer, hbase, hguard⟩ := hmark ((old.pairs (s.side x).judgeGroups.groups).any reportsEvent) _ rfl
  have hnew : (s.side x).judgeGroups.groups = (s.side x).groups.map (Group.judge (s.side x).cond.vector) := rfl
  rw [hnew] at hwarn htimer hbase hguard ⊢
  split
  · rename_i h
    rw [(trip_warn _ x).1, (trip_warn _ x).2, hwarn, htimer, hbase, hguard, h, Bool.true_and]
    exact ⟨rfl, rfl⟩
  · rename_i h
    rw [Bool.eq_false_iff.mpr h, Bool.false_and, Bool.or_false]
    exact ⟨hwarn, htimer.trans (if_neg fun hn => Bool.false_ne_true hn.1).symm⟩

end Sys2Proof.Guarding
end

section
/-! What each request that acts on supervision, on the operations and on the part does (R55, R58, R131, R141, R146,
R161, R183, R199). -/

namespace Sys2Proof.Requests

open Sys2Proof Sys2Proof.Machine Sys2Proof.TableBanks Sys2Proof.ExposureControl Sys2Proof.Guarding

section
variable {s : State} {x y : Side} {r : Request}

/-- A request that can be taken is executed by the command of the kind that its kind byte names. -/
theorem exec_request {i : Instr} {k : RequestKind} {run : State → Side → Request → State}
    (hexec : ∀ s, exec i s = taken s x k run) (h : CanTake s x r) (hk : r.requestKind = k) :
    exec i s = .next (run (takeRequest s x) x r) := by
  rw [hexec, taken_of_canTake h hk]

/-- The kind that a kind byte names. -/
theorem requestKind_of_kind {b : Byte} (h : r.kind = b) (k : RequestKind)
    (hk : ({ r with kind := b } : Request).requestKind = k) : r.requestKind = k := by
  rw [← hk, Request.requestKind, Request.requestKind, h]

theorem takeRequest_side (s : State) (x y : Side) : (takeRequest s x).side y = s.side y := onLink_side s x y _

theorem refuse_takeRequest (c : RefusalCode) : refuse (takeRequest s x) x c = answered s x (.refused c) :=
  respond_takeRequest _

/-- The response to a request whose one change of a side has been settled. -/
theorem respond_settle (f : SideState → SideState) (before : Conditions) (a : Response) :
    respond (settle ((takeRequest s x).onSide y f) y before) x a = answered (settle (s.onSide y f) y before) x a := by
  have hunread : Unread y (State.onLink · x fun l => { l with requests := l.requests.drop 1 }) :=
    unread_onLink y x fun l => by cases y <;> rfl
  rw [takeRequest, onLink_onSide, ← hunread.settle, respond, onLink_onLink]
  rfl

theorem answered_side (s : State) (x y : Side) (a : Response) : (answered s x a).side y = s.side y := onLink_side s x y _

/-- A response leaves the report-pending flags. -/
theorem answered_report (s : State) (x y z : Side) (a : Response) :
    ((answered s x a).link z).report y = (s.link z).report y :=
  Invariants.onLink_forall (P := fun l m => m.report y = l.report y) (fun _ => rfl) (by cases y <;> rfl) z

theorem faultOf_answered (s : State) (x : Side) (a : Response) : faultOf (answered s x a) = faultOf s :=
  faultOf_congr fun y => by rw [answered_side]

/-! ## COPY BANK and COMMIT BANK (R55, R58) -/

theorem beginOperation_takeRequest (k : OpKind) :
    beginOperation (takeRequest s x) x y k =
      (s.onSide y fun d => { d with store := { d.store with op := some ⟨k, x, 0, false, 0, none⟩ } }).onLink x fun l =>
        { l with requests := l.requests.drop 1, responses := l.responses ++ [.reserved] } := by
  rw [beginOperation, takeRequest, onLink_onSide, onLink_onLink]
  rfl

theorem busy_iff (t : Store) : t.busy = true ↔ t.op.isSome = true ∨ t.commitPending = true := by
  rw [Store.busy, Bool.or_eq_true]

end

/-- Settles O54. -/
theorem operationsBegin : Obligations.OperationsBegin := by
  intro x r s htake
  refine ⟨fun hk => ?_, fun hk => ?_⟩
  · have hexec := exec_request (i := .copyBank x) (fun _ => rfl) htake (requestKind_of_kind hk .copyBank rfl)
    rw [hexec]
    refine ⟨fun hn => ?_, fun y hn => ?_⟩
    · rw [doCopyBank, hn, ← refuse_takeRequest]
    · simp only [doCopyBank, hn, takeRequest_side, refuse_takeRequest, beginOperation_takeRequest, busy_iff]
      cases hactive : (s.side y).store.active with
      | none => exact (if_pos rfl).symm
      | some i =>
        rw [if_neg (Option.some_ne_none i)]
        exact apply_ite _ _ _ _
  · have hexec := exec_request (i := .commitBank x) (fun _ => rfl) htake (requestKind_of_kind hk .commitBank rfl)
    rw [hexec]
    refine ⟨fun hn => ?_, fun y hn => ?_⟩
    · rw [doCommitBank, hn, ← refuse_takeRequest]
    · simp only [doCommitBank, hn, takeRequest_side, refuse_takeRequest, beginOperation_takeRequest, busy_iff]
      exact apply_ite _ _ _ _

/-! ## ACKNOWLEDGE (R141, R148) -/

section
variable {s : State} {x : Side}

/-- The groups of a side after an ACKNOWLEDGE, and everything else of it as before. -/
theorem acknowledgeSide_side (o : Option Side) (sel : Byte) (y : Side) :
    (acknowledgeSide s o sel).side y =
      { s.side y with groups := if o = some y then (s.side y).groups.acknowledge sel else (s.side y).groups } := by
  cases o with
  | none => rw [if_neg (by simp)]; rfl
  | some z =>
    by_cases hy : y = z
    · subst hy
      rw [if_pos rfl]
      exact onSide_side_same _ _ _
    · rw [if_neg (by simpa using Ne.symm hy)]
      exact onSide_side_other _ _ hy

theorem acknowledge_nth (g : Groups) (sel : Byte) (k : Nat) (hk : k < 4) :
    (g.acknowledge sel).nth k = { g.nth k with flag := (g.nth k).flag && !sel.getLsbD k } := by
  match k, hk with
  | 0, _ => rfl
  | 1, _ => rfl
  | 2, _ => rfl
  | 3, _ => rfl

end

/-- Settles O55. -/
theorem acknowledged : Obligations.Acknowledged := by
  intro x r s htake hk
  have hexec := exec_request (i := .acknowledge x) (fun _ => rfl) htake (requestKind_of_kind hk .acknowledge rfl)
  refine ⟨_, hexec, ?_⟩
  have hside : ∀ y, (doAcknowledge (takeRequest s x) x r).side y = (acknowledgeSide s r.names r.id).side y := fun y => by
    rw [acknowledgeSide_side, ← takeRequest_side s x, ← acknowledgeSide_side (s := takeRequest s x), doAcknowledge, respond,
      onLink_side, judgeFault_side]
    cases y <;> rfl
  refine ⟨?_, ?_, fun y k hk => ?_, ?_⟩
  · have hsame : faultOf (doAcknowledge (takeRequest s x) x r) =
        faultOf (acknowledgeNotice (acknowledgeSide (takeRequest s x) r.names r.id) r.id) := faultOf_congr fun y => by
      rw [doAcknowledge, respond, onLink_side, judgeFault_side]
    rw [hsame, doAcknowledge, respond, onLink_fault]
    rfl
  · rw [doAcknowledge, respond, onLink_notice]
    cases hn : r.names with
    | none => cases x <;> rfl
    | some y => cases x <;> cases y <;> rfl
  · rw [hside, acknowledgeSide_side]
    by_cases hn : r.names = some y
    · rw [if_pos hn, decide_eq_true hn, Bool.true_and]
      exact acknowledge_nth _ _ k hk
    · rw [if_neg hn, decide_eq_false hn, Bool.false_and, Bool.not_false, Bool.and_true]
  · unfold doAcknowledge
    cases hn : r.names with
    | none => cases x <;> rfl
    | some y => cases x <;> cases y <;> rfl

/-! ## VIEW RESTORE (R157, R161) -/

/-- Settles O56. -/
theorem viewRestored : Obligations.ViewRestored := by
  intro x r s htake hk
  have hexec := exec_request (i := .viewRestore x) (fun _ => rfl) htake (requestKind_of_kind hk .viewRestore rfl)
  rw [hexec]
  refine ⟨fun hnot => ?_, fun y hn hheld hready => ?_⟩
  · cases hn : r.names with
    | none => rw [doViewRestore, hn, ← refuse_takeRequest]
    | some y =>
      have hside := takeRequest_side s x y
      simp only [doViewRestore, hn, hside, if_neg (hnot y hn), refuse_takeRequest]
  · have hset : ∀ (st : GuardState) (c : Nat), st ≠ .held →
        respond (setGuard (takeRequest s x) y st 64 c) x .done =
          markReports ((answered s x .done).onSide y fun d => { d with guard := ⟨st, 64, c, true⟩ }) y := fun st c hst => by
      have hstate : ((takeRequest s x).side y).guard.state ≠ st := by
        rw [takeRequest_side, hheld]
        exact hst.symm
      rw [setGuard]
      dsimp only
      rw [if_neg hstate]
      cases x <;> cases y <;>
        simp only [respond, takeRequest, answered, markReports, State.onLink, State.onSide, State.side, LinkState.answer,
          LinkState.setReport] at hready ⊢ <;> rw [hready]
    simp only [doViewRestore, hn, takeRequest_side, hheld, hready, true_and, if_true, startRestoration]
    congr 1
    split
    · rename_i hzero
      rw [hset .restoring 0 GuardState.noConfusion, hzero]
    · exact hset .waiting _ GuardState.noConfusion

/-! ## FORCE WARNING and WARN STOP (R131, R135, R143, R146) -/

section
variable {s : State} {x y : Side} {r : Request}

/-- A FORCE WARNING of a named side settles the change of FORCED and is answered DONE. -/
theorem exec_forceWarning (h : CanTake s x r) (hk : r.kind = 0x09) (hn : r.names = some y) :
    exec (.forceWarning x) s = .next (answered
      (settle (s.onSide y (·.setForced (decide (r.id ≠ 0)))) y (s.side y).cond) x .done) := by
  rw [exec_request (i := .forceWarning x) (fun _ => rfl) h (requestKind_of_kind hk .forceWarning rfl)]
  simp only [doForceWarning, hn, takeRequest_side, respond_settle]

/-- With another value than before, FORCED changes and the groups are evaluated. -/
theorem settle_setForced {v : Bool} (h : (s.side y).cond.forced ≠ v) :
    settle (s.onSide y (·.setForced v)) y (s.side y).cond =
      evaluateFrom (s.onSide y (·.setForced v)) y (s.side y).groups := by
  have hne : ((s.onSide y (·.setForced v)).side y).cond ≠ (s.side y).cond := fun heq => by
    rw [onSide_side_same] at heq
    exact h (congrArg Conditions.forced heq).symm
  rw [settle, if_neg hne, evaluate, onSide_side_same]
  rfl

theorem nth_map (g : Groups) (f : Group → Group) (k : Nat) : (g.map f).nth k = f (g.nth k) := by
  match k with
  | 0 => rfl
  | 1 => rfl
  | 2 => rfl
  | _ + 3 => rfl

theorem mem_pairs (old new : Groups) (k : Nat) : (old.nth k, new.nth k) ∈ old.pairs new := by
  match k with
  | 0 => exact .head _
  | 1 => exact .tail _ (.head _)
  | 2 => exact .tail _ (.tail _ (.head _))
  | _ + 3 => exact .tail _ (.tail _ (.tail _ (.head _)))

theorem nth_mem (g : Groups) (k : Nat) : g.nth k ∈ g.list := by
  match k with
  | 0 => exact .head _
  | 1 => exact .tail _ (.head _)
  | 2 => exact .tail _ (.tail _ (.head _))
  | _ + 3 => exact .tail _ (.tail _ (.tail _ (.head _)))

theorem restoreReady_of_nonconforming {g : Groups} {k : Nat} (hl : (g.nth k).level = 3)
    (hn : (g.nth k).nonconforming = true) : g.restoreReady = false := by
  rw [Groups.restoreReady, List.all_eq_false]
  exact ⟨g.nth k, nth_mem g k, by simp [hl, hn]⟩

/-- A side that an evaluation finds tripped and not restore-ready ends in FADING or HELD. -/
theorem tripped_state (g : Guard) (gone : Bool) :
    (g.tripped gone).state = .fading ∨ (g.tripped gone).state = .held := by
  unfold Guard.tripped
  split
  · split
    · exact .inr rfl
    · exact .inl rfl
  · split
    · exact .inr rfl
    · exact .inl rfl
  · exact .inr rfl
  · rename_i h
    exact .inl h
  · rename_i h
    exact .inr h

/-- A group of level 3 that comes to be NONCONFORMING trips its side, which is then not restore-ready (R135, R154). -/
theorem evaluateFrom_tripped {k : Nat} (hlevel : ((s.side y).groups.nth k).level = 3)
    (hold : ((s.side y).groups.nth k).nonconforming = false)
    (hnew : ((s.side y).groups.nth k).mismatch (s.side y).cond.vector = true) :
    ((s.side y).groups.pairs ((s.side y).groups.map (Group.judge (s.side y).cond.vector))).any trips = true ∧
      ((s.side y).groups.map (Group.judge (s.side y).cond.vector)).restoreReady = false := by
  have hjudged := nth_map (s.side y).groups (Group.judge (s.side y).cond.vector) k
  refine ⟨List.any_eq_true.mpr ⟨_, mem_pairs _ _ k, ?_⟩, restoreReady_of_nonconforming (k := k) ?_ ?_⟩
  · simp [hjudged, trips, Group.judge, hnew, hlevel, hold]
  · rw [hjudged]
    exact hlevel
  · rw [hjudged]
    exact hnew

end

/-- Settles O57, by whether FORCED changes. -/
theorem warningForced : Obligations.WarningForced := by
  intro x r s htake hk
  refine ⟨fun hn => ?_, fun y hn hsame => ?_, fun y hn hchange => ?_⟩
  · rw [exec_request (i := .forceWarning x) (fun _ => rfl) htake (requestKind_of_kind hk .forceWarning rfl), doForceWarning,
      hn, ← respond_takeRequest]
  · have hset : (s.side y).setForced (decide (r.id ≠ 0)) = s.side y := by rw [SideState.setForced, ← hsame]
    have hid : s.onSide y (·.setForced (decide (r.id ≠ 0))) = s := by
      rw [Reception.onSide_congr (g := id) hset]
      cases y <;> rfl
    rw [exec_forceWarning htake hk hn, hid, Invariants.settle_refl]
  · refine ⟨_, exec_forceWarning htake hk hn, ?_⟩
    rw [settle_setForced hchange]
    generalize decide (r.id ≠ 0) = v
    have hbeside := evaluateFrom_beside (s.onSide y (·.setForced v)) y (s.side y).groups
    have hcond : ((evaluateFrom (s.onSide y (·.setForced v)) y (s.side y).groups).side y).cond =
        { (s.side y).cond with forced := v } := by
      rw [besideSupervision_cond (beside_side hbeside), onSide_side_same]
      rfl
    have hgroups := evaluateFrom_groups (s.onSide y (·.setForced v)) y (s.side y).groups
    rw [onSide_side_same] at hgroups
    change _ = (s.side y).groups.map (Group.judge ((s.side y).setForced v).cond.vector) at hgroups
    have hvector : ((s.side y).setForced v).cond.vector =
        ((evaluateFrom (s.onSide y (·.setForced v)) y (s.side y).groups).side y).cond.vector := by rw [hcond]; rfl
    rw [answered_side]
    refine ⟨hcond, fun k hk => ?_, ?_, ?_⟩
    · have hjudged := nth_map (s.side y).groups (Group.judge ((s.side y).setForced v).cond.vector) k
      rw [hgroups, hjudged, hvector]
      refine ⟨rfl, rfl, rfl, rfl, rfl, fun hnew hold hlevel z => ?_, fun hnew hold hlevel => ?_⟩
      · rw [answered_report]
        refine evaluateFrom_reported _ y (List.any_eq_true.mpr ⟨_, mem_pairs _ _ k, ?_⟩) z
        rw [onSide_side_same]
        change reportsEvent ((s.side y).groups.nth k,
          ((s.side y).groups.map (Group.judge ((s.side y).setForced v).cond.vector)).nth k) = true
        rw [hjudged, hvector]
        simp only [reportsEvent, raisedEvent, hnew, hold, Bool.not_false, Bool.and_self, Bool.true_and]
        exact decide_eq_true hlevel
      · have htripped := evaluateFrom_tripped (s := s.onSide y (·.setForced v)) (y := y) (k := k)
          (by rw [onSide_side_same]; exact hlevel) (by rw [onSide_side_same]; exact hold)
          (by rw [onSide_side_same, hvector]; exact hnew)
        have hguard := evaluateFrom_guard (s.onSide y (·.setForced v)) y (s.side y).groups
        rw [onSide_side_same] at hguard htripped
        dsimp only at hguard
        rw [hguard.trans (if_pos htripped.1)]
        exact tripped_state _ _
    · rw [faultOf_answered]
      exact (onLink_fault _ _ _).trans (evaluateFrom_fault _ y _)
    · have hcommute : ∀ t : State, (answered t x .done).besideSupervision y =
          answered (t.besideSupervision y) x .done := fun t => by cases x <;> cases y <;> rfl
      have hset : (s.onSide y fun d => { d with cond := { (s.side y).cond with forced := v } }) =
          s.onSide y (·.setForced v) := Reception.onSide_congr rfl
      have hswap : (answered s x .done).onSide y
          (fun d => { d with cond := ((evaluateFrom (s.onSide y (·.setForced v)) y (s.side y).groups).side y).cond }) =
          answered (s.onSide y fun d =>
            { d with cond := ((evaluateFrom (s.onSide y (·.setForced v)) y (s.side y).groups).side y).cond }) x .done :=
        onLink_onSide s y x _ _
      rw [hcommute, hbeside, hswap, hcond, hset, hcommute]

/-- Settles O27. -/
theorem warnPulseEnds : Obligations.WarnPulseEnds := by
  intro s hfree htimed
  have hheld : ¬ s.resetHeld = true := Bool.eq_false_iff.mp hfree
  have hend : ∀ t : State, WarnTimed t → warnPulseEnd t = { t with warn := false, warnTimer := none } := fun t ht => by
    unfold warnPulseEnd
    split
    · rfl
    · rename_i h
      have hwarn := Bool.eq_false_iff.mpr h
      have htimer : t.warnTimer = none := by
        rw [WarnTimed, hwarn] at ht
        exact Option.isNone_iff_eq_none.mp (by rw [← Option.not_isSome, ← ht]; rfl)
      cases t
      simp only at hwarn htimer
      rw [hwarn, htimer]
  have hexec : exec .warnPulseExpiry s = if warnPulseDue s then .next (warnPulseEnd s) else .next s := if_neg hheld
  refine ⟨fun hdue => ?_, fun hnot => ?_, fun x r htake hk => ?_⟩
  · rw [hexec, if_pos hdue, hend s htimed]
  · rw [hexec, if_neg (Bool.eq_false_iff.mp hnot)]
  · have htimed' : WarnTimed (takeRequest s x) := by
      rw [WarnTimed, takeRequest, onLink_warn, onLink_warnTimer]
      exact htimed
    rw [exec_request (i := .warnStop x) (fun _ => rfl) htake (requestKind_of_kind hk .warnStop rfl), doWarnStop,
      hend _ htimed']
    cases x <;> rfl

/-! ## PART RESET and an unknown kind (R183, R199) -/

theorem requestKind_unknown {r : Request} (h : r.kind = 0x00 ∨ 0x0D < r.kind) : r.requestKind = .unknown := by
  have hnat : r.kind.toNat = 0 ∨ 13 < r.kind.toNat := h.imp (fun h => by rw [h]; rfl) fun h => h
  unfold Request.requestKind
  split
  case h_14 => rfl
  all_goals omega

/-- Settles O60. -/
theorem partResetAndUnknown : Obligations.PartResetAndUnknown := by
  intro x r s htake
  refine ⟨fun hk => ?_, fun hk => ?_⟩
  · rw [exec_request (i := .partReset x) (run := fun t _ _ => resetPart t .request) (fun _ => rfl) htake
      (requestKind_of_kind hk .partReset rfl), resetPart, takeRequest, onLink_pending]
  · rw [exec_request (i := .unknownRequest x) (run := fun t y _ => refuse t y .unknown) (fun _ => rfl) htake
      (requestKind_unknown hk), refuse_takeRequest]

end Sys2Proof.Requests
end

section
/-! What the readers of the active bank take and find (R49, R50, R64, R68). -/

namespace Sys2Proof.Taking

open Sys2Proof Sys2Proof.Machine

section
variable {d : SideState} {i : BankId}

theorem activeBank_of_active {t : Store} (h : t.active = some i) : t.activeBank = t.bank i := by
  rw [Store.activeBank, h]

/-- The findings of one occasion in the terms of the obligations (R50). -/
theorem enter_eq_found (p : ParityRecord) (i : BankId) (b : Bank) (ws : List Nat) :
    p.enter i (failedWords b ws) = p.found i b ws := by
  unfold ParityRecord.enter ParityRecord.found failedWords
  cases List.filter (fun w => (b.read w).failed) ws with
  | nil => rfl
  | cons w rest => cases p.first <;> rfl

theorem findFailed_parity (h : d.store.active = some i) (ws : List Nat) :
    (d.findFailed ws).store.parity = d.store.parity.found i (d.store.bank i) ws := by
  rw [← enter_eq_found, SideState.findFailed, h]
  dsimp only
  cases failedWords (d.store.bank i) ws <;> rfl

theorem findFailed_found (h : d.store.active = some i) (ws : List Nat) :
    (d.findFailed ws).cond.tableParity =
      (d.cond.tableParity || ws.any fun w => ((d.store.bank i).read w).failed) := by
  rw [findFailed_tableParity, h]

theorem findFailed_none (h : d.store.active = none) (ws : List Nat) : d.findFailed ws = d := by
  rw [SideState.findFailed, h]

/-! ## DEVELOP, SHADE and TONE -/

/-- A word of the frame values is the value used for the bank word of its number (R49). -/
theorem developValues_word (d : SideState) {w : Nat} (h : w < 491) :
    d.developValues.word w = (d.store.activeBank.read w).used w := by
  have hlen : w < (List.range 491).length := by rw [List.length_range]; exact h
  rw [FrameValues.word, SideState.developValues, SideState.take, takenValues, frameWordList]
  rw [List.getD_eq_getElem?_getD, List.getElem?_map, List.getElem?_eq_getElem (by simpa [Config.frameWords] using h)]
  simp

theorem developValues_width (d : SideState) : d.developValues.width = (d.store.activeBank.read 0).used 0 :=
  developValues_word d (by decide)

theorem developValues_height (d : SideState) : d.developValues.height = (d.store.activeBank.read 1).used 1 :=
  developValues_word d (by decide)

theorem developValues_eq (h : d.store.active = some i) :
    d.developValues = (List.range 491).map fun w => ((d.store.bank i).read w).used w := by
  rw [SideState.developValues, SideState.take, activeBank_of_active h]
  rfl

/-- The frame size in use is renewed, and the parity record and TABLE_PARITY are left as they were. -/
theorem renewSize_store (d : SideState) (w h : Nat) :
    (d.renewSize w h).store = { d.store with frameSize := some (w, h) } ∧ (d.renewSize w h).cond = d.cond := by
  unfold SideState.renewSize
  split
  · exact ⟨rfl, rfl⟩
  · split <;> exact ⟨rfl, rfl⟩

/-- With the size that is in use already, nothing else is changed (R49, R64). -/
theorem renewSize_same {w h : Nat} (hs : d.store.frameSize = some (w, h)) : d.renewSize w h = d := by
  rw [SideState.renewSize, hs]
  dsimp only
  rw [if_pos rfl, SideState.setFrameSize, ← hs]

/-- With another size than the one in use the maps are cleared (R64). -/
theorem renewSize_other {w h : Nat} {size : Nat × Nat} (hs : d.store.frameSize = some size) (hne : size ≠ (w, h)) :
    (d.renewSize w h).pipe = { d.pipe with map := zeroMap } ∧ (d.renewSize w h).glare.next = zeroMap := by
  rw [SideState.renewSize, hs]
  dsimp only
  rw [if_neg hne]
  exact ⟨rfl, rfl⟩

theorem takeDevelop_frameSize (d : SideState) :
    d.takeDevelop.store.frameSize = some (d.developValues.width, d.developValues.height) := by
  rw [SideState.takeDevelop, (renewSize_store _ _ _).1]

theorem takeDevelop_parity (h : d.store.active = some i) :
    d.takeDevelop.store.parity = d.store.parity.found i (d.store.bank i) (List.range 491) := by
  rw [SideState.takeDevelop, (renewSize_store _ _ _).1]
  exact findFailed_parity h _

theorem takeDevelop_found (h : d.store.active = some i) :
    d.takeDevelop.cond.tableParity =
      (d.cond.tableParity || (List.range 491).any fun w => ((d.store.bank i).read w).failed) := by
  rw [SideState.takeDevelop, (renewSize_store _ _ _).2]
  exact findFailed_found h _

theorem takeDevelop_same (hs : d.store.frameSize = some (d.developValues.width, d.developValues.height)) :
    d.takeDevelop = d.findFailed frameWordList := by
  rw [SideState.takeDevelop, renewSize_same]
  rw [findFailed_frame]
  exact hs

theorem takeDevelop_other {size : Nat × Nat} (hs : d.store.frameSize = some size)
    (hne : size ≠ (d.developValues.width, d.developValues.height)) :
    d.takeDevelop.pipe.map = zeroMap ∧ d.takeDevelop.glare.next = zeroMap := by
  have h := renewSize_other (d := d.findFailed frameWordList) (by rw [findFailed_frame]; exact hs) hne
  exact ⟨by rw [SideState.takeDevelop, h.1], h.2⟩

/-- A taking that meets no failed word, or whose finding is known already, leaves the vector as it was. -/
theorem takeDevelop_cond (h : ∀ w, w < 491 → (d.store.activeBank.read w).failed = true → d.cond.tableParity = true) :
    d.takeDevelop.cond = d.cond := by
  have htable : d.takeDevelop.cond.tableParity = d.cond.tableParity := by
    cases hactive : d.store.active with
    | none =>
      rw [SideState.takeDevelop, (renewSize_store _ _ _).2, findFailed_none hactive]
    | some i =>
      rw [activeBank_of_active hactive] at h
      rw [takeDevelop_found hactive]
      cases hp : d.cond.tableParity with
      | true => rfl
      | false =>
        rw [Bool.false_or, List.any_eq_false]
        intro w hw hfailed
        exact Bool.false_ne_true (hp.symm.trans (h w (List.mem_range.mp hw) hfailed))
  rw [takeDevelop_frame]
  dsimp only
  rw [htable]

/-- What a standalone frame start takes: the words of an active bank, and nothing without one (R49, R68). -/
theorem takeStandalone_of_active (h : d.store.active = some i) :
    d.takeStandalone = { d.takeDevelop with pipe := { d.takeDevelop.pipe with values := some d.developValues } } := by
  rw [SideState.takeStandalone, h]

theorem takeStandalone_none (h : d.store.active = none) : d.takeStandalone = d := by
  rw [SideState.takeStandalone, h]

theorem takeStandalone_cond (h : ∀ w, w < 491 → (d.store.activeBank.read w).failed = true → d.cond.tableParity = true) :
    d.takeStandalone.cond = d.cond := by
  unfold SideState.takeStandalone
  split
  · rfl
  · exact takeDevelop_cond h

theorem takeStandalone_guard (d : SideState) : d.takeStandalone.guard = d.guard := by
  unfold SideState.takeStandalone
  split
  · rfl
  · dsimp only
    rw [takeDevelop_frame]

end

end Sys2Proof.Taking
end

section
/-! How a trip and an egress frame start move the view guard (R155 to R159). -/

namespace Sys2Proof.Guarding

open Sys2Proof Sys2Proof.Machine Sys2Proof.Requests

section
variable {s : State} {x y : Side}

/-- A trip of a side that is not restore-ready leaves the guard as the table of R155 says. -/
theorem tripped_unready (g : Guard) (gone : Bool) :
    ({ ({ g with ready := false } : Guard).tripped gone with ready := false } : Guard) = g.tripped gone := by
  unfold Guard.tripped
  cases g.state <;> cases gone <;> simp

theorem readied_false (g : Guard) (k : Settings) : Readied g k false = { g with ready := false } :=
  if_neg fun h => Bool.false_ne_true h.1

theorem canTrip_ready (g : Guard) (b : Bool) : ({ g with ready := b } : Guard).canTrip = g.canTrip := rfl

/-- A standalone frame start of a busy lane with no commit pending and no new finding: the guard steps, the pipeline
takes what is in use, and the FRAME START waits (R158, R173, R214). -/
theorem startStandalone_busy (hcommit : (s.side x).store.commitPending = false) (hlane : (s.link x).lane ≠ .idle)
    (hknown : ∀ w, w < 491 → ((s.side x).store.activeBank.read w).failed = true →
      (s.side x).cond.tableParity = true) :
    let s2 := s.onSide x fun d => { d with standaloneDue := false, periodTimer := some s.timeBase }
    ∃ fade w h colour, startStandalone s x =
      (((guardStep s2 x).onSide x SideState.takeInUse).onSide x SideState.takeStandalone).onLink x
        (·.beginFrame .standalone fade w h colour) := by
  have hswap : swapIfPending s x = s := if_neg (Bool.eq_false_iff.mp hcommit)
  unfold startStandalone
  dsimp only
  rw [hswap]
  have hbeside := guardStep_beside (s.onSide x fun d => { d with standaloneDue := false, periodTimer := some s.timeBase }) x
  generalize hs3 : (guardStep (s.onSide x fun d => { d with standaloneDue := false, periodTimer := some s.timeBase }) x) =
    s3 at hbeside
  obtain ⟨a, b, hlink⟩ := Invariants.beside_link hbeside x
  have hside := besideSupervision_rest (beside_side hbeside).symm
  rw [onSide_side_same] at hside
  have hkick : ∀ (t : State) (src : Source) (fade w h : Nat) (colour : Rgb), t.link x = s3.link x →
      kick (t.onLink x (·.beginFrame src fade w h colour)) x = t.onLink x (·.beginFrame src fade w h colour) :=
    fun t src fade w h colour ht => kick_busy _ x (by
      rw [onLink_link_same, ht, hlink, onSide_link]
      exact hlane)
  refine ⟨(((s3.onSide x SideState.takeInUse).onSide x SideState.takeStandalone).side x).pipe.fade,
    ((s3.onSide x SideState.takeInUse).side x).standaloneSize.1,
    ((s3.onSide x SideState.takeInUse).side x).standaloneSize.2,
    ((s3.onSide x SideState.takeInUse).side x).standaloneColour, ?_⟩
  rw [beginEgressFrame, hkick _ _ _ _ _ _ (by rw [onSide_link, onSide_link]), settle, if_pos]
  rw [onLink_side, onSide_side_same]
  refine Taking.takeStandalone_cond ?_
  rw [onSide_side_same, hside]
  exact hknown

end

/-- Settles O28, by the evaluation of FORCED and by the step of a standalone frame start. -/
theorem guardMoves : Obligations.GuardMoves := by
  refine ⟨fun x y r s k htake hk hn hid hforced hlt hlevel hold hnew => ?_,
    fun x s hfree hdue hsource hframes hcommit hlane hknown => ?_⟩
  · have hv : decide (r.id ≠ 0) = true := decide_eq_true hid
    have hchange : (s.side y).cond.forced ≠ true := Bool.eq_false_iff.mp hforced
    refine ⟨_, exec_forceWarning htake hk hn, ?_⟩
    rw [hv, settle_setForced hchange, answered_side]
    have hforced' := onSide_side_same s y (·.setForced true)
    have htripped := evaluateFrom_tripped (s := s.onSide y (·.setForced true)) (y := y) (k := k)
      (by rw [hforced']; exact hlevel) (by rw [hforced']; exact hold) (by rw [hforced']; exact hnew)
    have hguard := evaluateFrom_guard (s.onSide y (·.setForced true)) y (s.side y).groups
    have hwarn := evaluateFrom_warn (s.onSide y (·.setForced true)) y (s.side y).groups
    rw [hforced'] at htripped hguard hwarn
    dsimp only at hguard hwarn
    rw [htripped.2, readied_false] at hguard hwarn
    obtain ⟨htrips, -⟩ := htripped
    have htrips' : ((s.side y).groups.pairs (Groups.map (Group.judge ((s.side y).setForced true).cond.vector)
        ((s.side y).setForced true).groups)).any trips = true := htrips
    rw [htrips', Bool.true_and] at hwarn
    refine ⟨(hguard.trans (if_pos htrips')).trans (tripped_unready _ _), ?_, ?_, fun z => ?_⟩
    · refine (onLink_warn _ _ _).trans (hwarn.1.trans ?_)
      rw [onSide_warn]
      rfl
    · refine (onLink_warnTimer _ _ _).trans (hwarn.2.trans ?_)
      rw [onSide_warn, onSide_timeBase, onSide_warnTimer]
      rfl
    · rw [answered_report]
      refine evaluateFrom_reported _ y (List.any_eq_true.mpr ⟨_, mem_pairs _ _ k, ?_⟩) z
      rw [hforced', nth_map]
      have hmismatch : (((s.side y).setForced true).groups.nth k).mismatch ((s.side y).setForced true).cond.vector = true :=
        hnew
      have hsame : ((s.side y).setForced true).groups = (s.side y).groups := rfl
      rw [hsame] at hmismatch ⊢
      simp [reportsEvent, raisedEvent, Group.judge, hmismatch, hold, hlevel]
  · have hexec : exec (.standaloneFrameStart x) s = .next (startStandalone s x) := by
      show (if s.resetHeld then _ else if standaloneEnabled s x then _ else _) = _
      have henabled : standaloneEnabled s x = true := by simp [standaloneEnabled, hdue, hsource, hframes]
      rw [if_neg (Bool.eq_false_iff.mp hfree), if_pos henabled]
    obtain ⟨fade, w, h, colour, heq⟩ := startStandalone_busy hcommit hlane hknown
    refine ⟨_, hexec, ?_⟩
    rw [heq]
    generalize hs2 : (s.onSide x fun d => { d with standaloneDue := false, periodTimer := some s.timeBase }) = s2
    have hside : (s2.side x).guard = (s.side x).guard ∧ (s2.side x).settings = (s.side x).settings := by
      rw [← hs2, onSide_side_same]
      exact ⟨rfl, rfl⟩
    have hguard : (((((guardStep s2 x).onSide x SideState.takeInUse).onSide x SideState.takeStandalone).onLink x
        (·.beginFrame .standalone fade w h colour)).side x).guard = ((guardStep s2 x).side x).guard := by
      rw [onLink_side, onSide_side_same, onSide_side_same, Taking.takeStandalone_guard]
      rfl
    rw [hguard]
    refine ⟨?_, ?_, ?_, fun y => ?_⟩
    · rw [guardStep_guard, hside.1, hside.2]
    · rw [onLink_warn, onSide_warn, onSide_warn, guardStep_warn, ← hs2, onSide_warn]
    · rw [onLink_warnTimer, onSide_warnTimer, onSide_warnTimer, guardStep_warnTimer, ← hs2, onSide_warnTimer]
    · have hreport : ∀ t : State, ((t.onLink x (·.beginFrame .standalone fade w h colour)).link y).report x =
          (t.link y).report x := fun t =>
        Invariants.onLink_forall (P := fun l m => m.report x = l.report x) (fun _ => rfl) (by cases x <;> rfl) y
      rw [hreport, onSide_link, onSide_link, guardStep_report, hside.1, ← hs2, onSide_link]

end Sys2Proof.Guarding
end

section
/-! The words of a bank under a strike, a copy, a check and a table access (R48, R50, R53 to R60). -/

namespace Sys2Proof.BankWords

open Sys2Proof Sys2Proof.Machine Sys2Proof.Taking

section
variable {s : State} {x : Side} {d : SideState} {i : BankId} {op : Operation}

/-- What settling a command's changes leaves of the side that they were made to. -/
theorem settle_side (s : State) (x : Side) (f : SideState → SideState) (before : Conditions) :
    ∃ groups guard, (settle (s.onSide x f) x before).side x = { f (s.side x) with groups := groups, guard := guard } := by
  have h := besideSupervision_rest (beside_side (settle_beside (s.onSide x f) x before)).symm
  rw [onSide_side_same] at h
  exact ⟨_, _, h⟩

/-- The response queues stand while a command's changes are settled. -/
theorem settle_responses (s : State) (x : Side) (f : SideState → SideState) (before : Conditions) (z : Side) :
    ((settle (s.onSide x f) x before).link z).responses = (s.link z).responses := by
  obtain ⟨a, b, h⟩ := Invariants.beside_link (settle_beside (s.onSide x f) x before) z
  rw [h, onSide_link]

theorem settle_side_other (f : SideState → SideState) (before : Conditions) {y : Side} (hy : y ≠ x) :
    (settle (s.onSide x f) x before).side y = s.side y := by
  rw [beside_side_other hy (settle_beside _ x before), onSide_side_other _ _ hy]

theorem exec_unheld {a b : Host.Outcome State Fault Refusal} (h : s.resetHeld = false) :
    (if s.resetHeld then a else b) = b := if_neg (Bool.eq_false_iff.mp h)

/-! ## The copy (R56) -/

/-- The copy of one word as one equation. -/
theorem copyStep_eq (hactive : d.store.active = some i) :
    d.copyStep op =
      { d with
        store :=
          { d.store.onBank (otherBank i) (fun b => b.write op.progress
              (BitVec.ofNat 16 (((d.store.bank i).read op.progress).used op.progress))) with
            parity := d.store.parity.found i (d.store.bank i) [op.progress]
            op := some { op with
              progress := op.progress + 1
              failure := op.failure || ((d.store.bank i).read op.progress).failed } }
        cond := { d.cond with
          tableParity := d.cond.tableParity || ((d.store.bank i).read op.progress).failed } } := by
  have hparity := findFailed_parity hactive [op.progress]
  have hfound := findFailed_found hactive [op.progress]
  rw [List.any_cons, List.any_nil, Bool.or_false] at hfound
  unfold SideState.copyStep
  dsimp only
  rw [findFailed_frame, hparity, hfound, activeBank_of_active hactive]
  dsimp only
  have hshadow : ∀ p : ParityRecord, Store.shadow { d.store with parity := p } = otherBank i := fun p => by
    rw [Store.shadow, hactive]
  rw [hshadow]
  cases i <;> rfl

theorem copyNext_eq (hop : d.store.op = some op) (hk : op.kind = .copy) (hp : op.progress < 706) :
    d.copyNext = d.copyStep op := by
  rw [SideState.copyNext, hop]
  dsimp only
  rw [hk]
  exact if_pos hp

theorem otherBank_ne (i : BankId) : i ≠ otherBank i := by cases i <;> exact BankId.noConfusion

/-- What one copied word leaves of both banks, of the operation and of what it will read next. -/
theorem copyNext_banks (hcanon : d.BanksCanonical) (hactive : d.store.active = some i) (hop : d.store.op = some op)
    (hk : op.kind = .copy) (hp : op.progress < 706) :
    let word := (d.store.bank i).read op.progress
    (d.copyNext.store.bank (otherBank i)).read op.progress = ⟨BitVec.ofNat 16 (word.used op.progress), false⟩ ∧
      (∀ w, w ≠ op.progress → (d.copyNext.store.bank (otherBank i)).read w = (d.store.bank (otherBank i)).read w) ∧
      d.copyNext.store.bank i = d.store.bank i ∧ d.copyNext.store.active = some i ∧
      d.copyNext.store.op = some { op with progress := op.progress + 1, failure := op.failure || word.failed } := by
  have hwf : (d.store.bank (otherBank i)).wf = true := by
    obtain ⟨h0, h1⟩ := hcanon
    cases i
    · exact h1
    · exact h0
  have hbank : d.copyNext.store.bank (otherBank i) = (d.store.bank (otherBank i)).write op.progress
      (BitVec.ofNat 16 (((d.store.bank i).read op.progress).used op.progress)) := by
    rw [copyNext_eq hop hk hp, copyStep_eq hactive]
    cases i <;> rfl
  rw [hbank]
  refine ⟨Bank.read_store_same hwf, fun w hw => Bank.read_store_other hw _, ?_⟩
  rw [copyNext_eq hop hk hp, copyStep_eq hactive]
  refine ⟨?_, ?_, rfl⟩
  · cases i <;> rfl
  · cases i <;> exact hactive

/-- What a number of copied words leaves. -/
theorem copyMany_banks (n : Nat) : ∀ {d : SideState} {op : Operation}, d.BanksCanonical → d.store.active = some i →
    d.store.op = some op → op.kind = .copy → op.progress + n ≤ 706 →
    (∀ w, op.progress ≤ w → w < op.progress + n → ((SideState.copyMany n d).store.bank (otherBank i)).read w =
      ⟨BitVec.ofNat 16 (((d.store.bank i).read w).used w), false⟩) ∧
    (∀ w, w < op.progress ∨ op.progress + n ≤ w → ((SideState.copyMany n d).store.bank (otherBank i)).read w =
      (d.store.bank (otherBank i)).read w) ∧
    (SideState.copyMany n d).store.bank i = d.store.bank i ∧
    ∃ op', (SideState.copyMany n d).store.op = some op' ∧
      (op'.failure = true ↔ op.failure = true ∨
        ∃ w, op.progress ≤ w ∧ w < op.progress + n ∧ ((d.store.bank i).read w).failed = true) := by
  induction n with
  | zero =>
    intro d op _ _ hop _ _
    refine ⟨fun w hle hlt => absurd hlt (by omega), fun _ _ => rfl, rfl, op, hop, fun h => .inl h, ?_⟩
    rintro (h | ⟨w, hle, hlt, -⟩)
    · exact h
    · omega
  | succ n ih =>
    intro d op hcanon hactive hop hk hp
    obtain ⟨hnew, hrest, hsame, hactive1, hop1⟩ := copyNext_banks hcanon hactive hop hk (by omega)
    have hcanon1 := (Invariants.copyNext_step d).canonical hcanon
    obtain ⟨hcopied, hkept, hsame2, op', hop', hfail⟩ := ih hcanon1 hactive1 hop1 hk (by dsimp only; omega)
    dsimp only at hcopied hkept hfail
    rw [hsame] at hcopied hsame2 hfail
    rw [SideState.copyMany]
    refine ⟨fun w hle hlt => ?_, fun w hw => ?_, hsame2, op', hop', hfail.trans ?_⟩
    · by_cases hw : w = op.progress
      · rw [hw, hkept _ (.inl (Nat.lt_succ_self _)), hnew]
      · exact hcopied w (by omega) (by omega)
    · rw [hkept w (by omega), hrest w (by omega)]
    · rw [Bool.or_eq_true, or_assoc]
      refine or_congr_right ⟨?_, ?_⟩
      · rintro (h | ⟨w, hle, hlt, h⟩)
        · exact ⟨op.progress, Nat.le_refl _, by omega, h⟩
        · exact ⟨w, by omega, by omega, h⟩
      · rintro ⟨w, hle, hlt, h⟩
        by_cases hw : w = op.progress
        · exact .inl (hw ▸ h)
        · exact .inr ⟨w, by omega, by omega, h⟩

/-! ## The check (R59, R60) -/

/-- What a number of checked words leaves of the operation: a failure among them, their sum, and whether all of them
are valid. -/
theorem checkMany_op (expected : Half) (n : Nat) : ∀ {t : Store} {op : Operation}, t.op = some op →
    op.kind = .check expected → op.progress + n ≤ 706 →
    ∃ op', (Store.checkMany n t).op = some op' ∧
      (op'.failure = false ↔ op.failure = false ∧
        ∀ k, k < n → ((t.bank t.shadow).read (op.progress + k)).failed = false) ∧
      op'.sum = op.sum + ((List.range n).map fun k => ((t.bank t.shadow).read (op.progress + k)).value).sum ∧
      (op'.invalid = none ↔ op.invalid = none ∧ ∀ k, k < n → wordValid (t.bank t.shadow) (op.progress + k) = true) := by
  induction n with
  | zero =>
    intro t op hop _ _
    refine ⟨op, hop, ⟨fun h => ⟨h, nofun⟩, fun h => h.1⟩, ?_, ⟨fun h => ⟨h, nofun⟩, fun h => h.1⟩⟩
    rw [List.range_zero, List.map_nil, List.sum_nil]
    exact (BitVec.add_zero _).symm
  | succ n ih =>
    intro t op hop hk hp
    have hnext : t.checkNext = { t with op := some (t.checkStep op) } :=
      TableBanks.checkNext_of_check hop hk (by omega)
    have hbank : ∀ o, Store.bank { t with op := o } (Store.shadow { t with op := o }) = t.bank t.shadow := fun o => by
      have hshadow : Store.shadow { t with op := o } = t.shadow := rfl
      rw [hshadow]
      cases t.shadow <;> rfl
    obtain ⟨op', hop', hfail, hsum, hinvalid⟩ := ih (t := t.checkNext) (op := t.checkStep op) (by rw [hnext])
      hk (by show op.progress + 1 + n ≤ 706; omega)
    rw [hnext, hbank] at hfail hsum hinvalid
    have hshift : ∀ k, (t.checkStep op).progress + k = op.progress + (k + 1) := fun k => by
      show op.progress + 1 + k = op.progress + (k + 1)
      omega
    simp only [hshift] at hfail hsum hinvalid
    have hsucc : ∀ P : Nat → Prop, (∀ k, k < n + 1 → P k) ↔ P 0 ∧ ∀ k, k < n → P (k + 1) := fun P => by
      refine ⟨fun h => ⟨h 0 (Nat.succ_pos n), fun k hk => h (k + 1) (by omega)⟩, fun h k hk => ?_⟩
      cases k with
      | zero => exact h.1
      | succ k => exact h.2 k (by omega)
    rw [Store.checkMany]
    refine ⟨op', hop', hfail.trans ?_, hsum.trans ?_, hinvalid.trans ?_⟩
    · rw [hsucc fun k => ((t.bank t.shadow).read (op.progress + k)).failed = false, ← and_assoc]
      refine and_congr_left' ?_
      show (op.failure || ((t.bank t.shadow).read op.progress).failed) = false ↔ _
      rw [Bool.or_eq_false_iff]
      rfl
    · rw [List.range_succ_eq_map, List.map_cons, List.sum_cons, List.map_map]
      exact BitVec.add_assoc _ _ _
    · rw [hsucc fun k => wordValid (t.bank t.shadow) (op.progress + k) = true, ← and_assoc]
      refine and_congr_left' ?_
      rw [TableBanks.checkStep_invalid]
      show _ ↔ op.invalid = none ∧ wordValid (t.bank t.shadow) op.progress = true
      cases op.invalid with
      | some place => simp
      | none => simp

/-- The response says ACCEPTED exactly for a check with no finding (R60). -/
theorem checkResult_accepted (expected : Half) :
    checkResult op expected = .accepted ↔ op.failure = false ∧ op.sum = expected ∧ op.invalid = none := by
  unfold checkResult
  cases op.failure <;> cases op.invalid <;> by_cases h : op.sum = expected <;> simp [h]

/-! ## Table accesses (R53, R54) -/

/-- Words written one after another stand where they were written, and every other word reads as before (R53). -/
theorem writeMany_read : ∀ (vs : List Half) (b : Bank) (k : Nat), b.wf = true → k + vs.length ≤ 706 →
    (∀ j, j < vs.length → (b.writeMany k vs).read (k + j) = ⟨vs.getD j 0, false⟩) ∧
      ∀ w, w < k ∨ k + vs.length ≤ w → (b.writeMany k vs).read w = b.read w
  | [], b, k, _, _ => ⟨fun j hj => absurd hj (Nat.not_lt_zero j), fun _ _ => rfl⟩
  | v :: vs, b, k, hb, hk => by
    rw [List.length_cons] at hk
    have hwf : (b.write k v).wf = true := Bank.write_wf v (by show k < 706; omega) hb
    obtain ⟨hin, hout⟩ := writeMany_read vs (b.write k v) (k + 1) hwf (by omega)
    refine ⟨fun j hj => ?_, fun w hw => ?_⟩
    · cases j with
      | zero => exact (hout k (.inl (Nat.lt_succ_self k))).trans (Bank.read_store_same hb)
      | succ j =>
        rw [List.length_cons] at hj
        have h := hin j (by omega)
        rw [show k + 1 + j = k + (j + 1) by omega] at h
        exact h
    · rw [List.length_cons] at hw
      exact (hout w (by omega)).trans (Bank.read_store_other (by omega) b)

end

end Sys2Proof.BankWords
end

section
/-! The statements about the words of the banks (R48, R50, R53 to R60). -/

namespace Sys2Proof.BankWords

open Sys2Proof Sys2Proof.Machine Sys2Proof.Taking Sys2Proof.Requests Sys2Proof.ExposureControl

/-- A side with the banks of a changed store and nothing else of it. -/
theorem onBank_banks (t : Store) (i : BankId) (f : Bank → Bank) :
    { t with bank0 := (t.onBank i f).bank0, bank1 := (t.onBank i f).bank1 } = t.onBank i f := by
  cases i <;> rfl

/-- Settles O29. -/
theorem parityFailureStrikes : Obligations.ParityFailureStrikes := by
  intro x bank word value s hfree hcanon
  have hexec : exec (.parityFailure x bank word value) s = .next (s.onSide x fun d =>
      { d with store := d.store.onBank bank fun b => b.strike word.val value }) := exec_unheld hfree
  have hwf : ((s.side x).store.bank bank).wf = true := by
    obtain ⟨h0, h1⟩ := hcanon
    cases bank
    · exact h0
    · exact h1
  refine ⟨_, hexec, ?_⟩
  rw [onSide_side_same]
  refine ⟨?_, fun w hw => ?_, fun b hb => ?_, ?_⟩
  · rw [Store.onBank_same]
    exact Bank.read_store_same hwf
  · rw [Store.onBank_same]
    exact Bank.read_store_other hw _
  · exact Store.onBank_other _ _ hb
  · refine Reception.onSide_congr ?_
    dsimp only
    rw [onBank_banks]

/-! ## The copy (R50, R56, R57) -/

/-- Settles O30, by the copy of one word as one equation. -/
theorem copyWordTaken : Obligations.CopyWordTaken := by
  intro x s op i hfree hcanon hop hk hp hactive
  have hexec : exec (.copyWord x) s = .next (settle (s.onSide x SideState.copyNext) x (s.side x).cond) :=
    exec_unheld hfree
  refine ⟨_, hexec, ?_⟩
  obtain ⟨groups, guard, hside⟩ := settle_side s x SideState.copyNext (s.side x).cond
  obtain ⟨hnew, hrest, hsame, -, hop'⟩ := copyNext_banks hcanon hactive hop hk hp
  have hframe := copyNext_frame (s.side x)
  have heq := (copyNext_eq hop hk hp).trans (copyStep_eq hactive)
  rw [hside]
  refine ⟨hnew, hrest, hsame, hop', ?_, ?_, ?_⟩
  · show (s.side x).copyNext.cond.tableParity = _
    rw [heq]
  · show (s.side x).copyNext.store.parity = _
    rw [heq]
    dsimp only [ParityRecord.found]
    cases hf : (((s.side x).store.bank i).read op.progress).failed <;> simp [hf]
  · refine (settle_beside _ x _).trans (congrArg (State.besideSupervision · x) (Reception.onSide_congr ?_))
    generalize (s.side x).copyNext = e at hframe ⊢
    rw [hframe]

/-- The substitutes of R50 by word number. -/
theorem substitute_eq (w : Nat) (hw : w < 706) :
    substitute w =
      (developSubstitutes ++ List.replicate 221 1024 ++ (List.range 257).map (min 255) ++ List.replicate 192 0 ++
        glareSubstitutes ++ exposeSubstitutes).getD w 0 := by
  have hlen : developSubstitutes.length = 13 ∧ glareSubstitutes.length = 16 ∧ exposeSubstitutes.length = 7 :=
    ⟨rfl, rfl, rfl⟩
  obtain ⟨hd, hg, he⟩ := hlen
  unfold substitute wordIndex wordTable
  simp only [List.getD_eq_getElem?_getD, List.getElem?_append, List.length_replicate,
    List.length_map, List.length_range, hd, hg, List.append_assoc]
  by_cases h0 : w < 13
  · rw [if_pos h0, if_pos h0]
    rfl
  rw [if_neg h0, if_neg h0]
  by_cases h1 : w < 234
  · rw [if_pos h1, if_pos (show w - 13 < 221 by omega), List.getElem?_replicate,
      if_pos (show w - 13 < 221 by omega)]
    rfl
  rw [if_neg h1, if_neg (show ¬ w - 13 < 221 by omega)]
  by_cases h2 : w < 491
  · rw [if_pos h2, if_pos (show w - 13 - 221 < 257 by omega), List.getElem?_map,
      List.getElem?_range (show w - 13 - 221 < 257 by omega)]
    show min 255 (w - 234) = min 255 (w - 13 - 221)
    rw [Nat.sub_sub]
  rw [if_neg h2, if_neg (show ¬ w - 13 - 221 < 257 by omega)]
  by_cases h3 : w < 683
  · rw [if_pos h3, if_pos (show w - 13 - 221 - 257 < 192 by omega), List.getElem?_replicate,
      if_pos (show w - 13 - 221 - 257 < 192 by omega)]
    rfl
  rw [if_neg h3, if_neg (show ¬ w - 13 - 221 - 257 < 192 by omega)]
  by_cases h4 : w < 699
  · rw [if_pos h4, if_pos (show w - 13 - 221 - 257 - 192 < 16 by omega),
      show w - 13 - 221 - 257 - 192 = w - 683 by omega]
    rfl
  · rw [if_neg h4, if_neg (show ¬ w - 13 - 221 - 257 - 192 < 16 by omega),
      show w - 13 - 221 - 257 - 192 - 16 = w - 699 by omega]
    rfl

/-- Settles O31, by what a number of copied words leaves. -/
theorem copyCompletes : Obligations.CopyCompletes := by
  intro x s op i hfree hcanon hop hk hp hactive
  have hexec : exec (.copyCompletion x) s = .next
      ((settle (s.onSide x fun _ => ((s.side x).copyMany (706 - op.progress)).endOp) x (s.side x).cond).onLink op.link
        (·.fill (copyResult (((s.side x).copyMany (706 - op.progress)).store.op.getD op)))) := by
    have hunheld : exec (.copyCompletion x) s = _ := exec_unheld hfree
    rw [hunheld, hop]
    dsimp only
    rw [hk]
    rfl
  obtain ⟨hcopied, hkept, hsame, op', hop', hfail⟩ := copyMany_banks (706 - op.progress) hcanon hactive hop hk (by omega)
  rw [Nat.add_sub_cancel' hp] at hcopied hkept hfail
  obtain ⟨groups, guard, hside⟩ := settle_side s x (fun _ => ((s.side x).copyMany (706 - op.progress)).endOp)
    (s.side x).cond
  have hresult : copyResult (((s.side x).copyMany (706 - op.progress)).store.op.getD op) =
      if op.failure || (List.range 706).any fun w =>
        decide (op.progress ≤ w) && (((s.side x).store.bank i).read w).failed then .refused .parity else .done := by
    rw [hop', Option.getD_some, copyResult]
    refine if_congr (hfail.trans ?_) rfl rfl
    simp only [Bool.or_eq_true, List.any_eq_true, List.mem_range, Bool.and_eq_true, decide_eq_true_eq]
    exact or_congr_right ⟨fun ⟨w, hle, hlt, h⟩ => ⟨w, hlt, hle, h⟩, fun ⟨w, hlt, hle, h⟩ => ⟨w, hle, hlt, h⟩⟩
  refine ⟨_, hexec, ?_⟩
  rw [onLink_side, hside, onLink_link_same, hresult]
  refine ⟨fun w hw => ?_, fun w hw hf => ?_, hcopied, fun w hw => hkept w (.inl hw), hsame, rfl, ?_, fun y hy => ?_⟩
  · rw [TableWord.used, hw, if_neg Bool.false_ne_true]
  · rw [TableWord.used, hf, if_pos rfl, substitute_eq w hw]
    rfl
  · rw [LinkState.fill, settle_responses]
  · rw [onLink_side, settle_side_other _ _ hy]

/-! ## The check (R58 to R60) -/

/-- A completed check ends the operation, fills its slot with the result, and leaves a commit pending if that is
ACCEPTED. -/
theorem exec_checkCompletion {s : State} {x : Side} {op : Operation} {expected : Half} (hfree : s.resetHeld = false)
    (hop : (s.side x).store.op = some op) (hk : op.kind = .check expected) :
    exec (.checkCompletion x) s = .next ((s.onSide x fun d =>
      { d with
        store :=
          { d.store with
            op := none
            commitPending := d.store.commitPending ||
              decide (checkResult (((s.side x).store.checkMany (706 - op.progress)).op.getD op) expected =
                .accepted) } }).onLink op.link
        (·.fill (checkResult (((s.side x).store.checkMany (706 - op.progress)).op.getD op) expected))) := by
  have hunheld : exec (.checkCompletion x) s = _ := exec_unheld hfree
  rw [hunheld, hop]
  dsimp only
  rw [hk]
  rfl

/-- Settles O33. -/
theorem checkCompletes : Obligations.CheckCompletes := by
  intro x s op expected hfree hop hk hp hcommit r
  have hresult : checkResult (((s.side x).store.checkMany (706 - op.progress)).op.getD op) expected = r := by
    rw [hp, Nat.sub_self, Store.checkMany, hop, Option.getD_some]
    rfl
  rw [exec_checkCompletion hfree hop hk, hresult]
  refine congrArg (fun t => Host.Outcome.next (State.onLink t op.link (·.fill r))) (Reception.onSide_congr ?_)
  rw [hcommit, Bool.false_or]

/-- Settles O34, by what a number of checked words leaves of the operation. -/
theorem acceptedMeansSound : Obligations.AcceptedMeansSound := by
  intro x s t link expected hfree hop hcommit hexec bank
  obtain ⟨op', hop', hfail, hsum, hinvalid⟩ := checkMany_op expected 706 hop rfl (Nat.le_refl 706)
  rw [exec_checkCompletion hfree hop rfl] at hexec
  obtain rfl := Host.Outcome.next.inj hexec
  rw [onLink_side, onSide_side_same, hcommit, Bool.false_or, decide_eq_true_iff, Nat.sub_zero, hop', Option.getD_some,
    checkResult_accepted]
  simp only [Nat.zero_add, true_and] at hfail hsum hinvalid
  have hsum := hsum.trans (BitVec.zero_add _)
  rw [hfail, hsum, hinvalid]

/-! ## Table accesses (R53, R54) -/

section
variable {s : State} {x y : Side} {r : Request}

/-- A table access is out of range, as the order of refusals judges it. -/
theorem tableInRange_eq_false {table : Nat} : r.tableInRange table = false ↔
    r.count.toNat = 0 ∨ 8 < r.count.toNat ∨ tableLength table < r.index.toNat + r.count.toNat := by
  simp only [Request.tableInRange, Bool.and_eq_false_iff, decide_eq_false_iff_not]
  omega

theorem tableInRange_eq_true {table : Nat} (h : ¬ (r.count.toNat = 0 ∨ 8 < r.count.toNat ∨
    tableLength table < r.index.toNat + r.count.toNat)) : r.tableInRange table = true := by
  rw [← Bool.not_eq_false, tableInRange_eq_false]
  exact h

theorem field_setWidth (v : Half) : packWord [field 0 16 v.toNat] = BitVec.setWidth 32 v := by
  refine BitVec.eq_of_toNat_eq ?_
  have hlt := v.isLt
  simp only [packWord, field, List.sum_cons, List.sum_nil, BitVec.toNat_ofNat, BitVec.toNat_setWidth]
  omega

/-- No substitute needs more than 16 bits. -/
theorem substitute_lt (w : Nat) : substitute w < 65536 := by
  have hget : ∀ (l : List Nat) (n : Nat), (∀ v ∈ l, v < 65536) → l.getD n 0 < 65536 := fun l n h => by
    rw [List.getD_eq_getElem?_getD]
    cases hn : l[n]? with
    | none => exact Nat.zero_lt_succ _
    | some v => exact h v (List.mem_of_getElem? hn)
  unfold substitute
  split
  · exact hget _ _ (by decide)
  · decide
  · exact (Nat.min_le_left _ _).trans_lt (by decide)
  · decide
  · exact hget _ _ (by decide)
  · exact hget _ _ (by decide)

theorem used_lt (t : TableWord) (w : Nat) : t.used w < 65536 := by
  unfold TableWord.used
  split
  · exact substitute_lt w
  · exact t.value.isLt

theorem activeWord_eq (b : Bank) (w : Nat) :
    activeWord b w = BitVec.ofNat 32 ((b.read w).used w + (if (b.read w).failed then 65536 else 0)) := by
  have hlt := used_lt (b.read w) w
  have hmod : (b.read w).used w % 2 ^ 16 = (b.read w).used w := Nat.mod_eq_of_lt hlt
  simp only [activeWord, packWord, flagAt, field, hmod, List.sum_cons, List.sum_nil]
  cases (b.read w).failed <;> simp

end

/-- Settles O52, by the order of its refusals and what the words written leave of the banks. -/
theorem tableWritten : Obligations.TableWritten := by
  intro x r s htake hk
  rw [exec_request (i := .tableWrite x) (fun _ => rfl) htake (requestKind_of_kind hk .tableWrite rfl)]
  refine ⟨fun hunknown => ?_, fun y hn ht => ?_⟩
  · cases hn : r.names with
    | none => rw [doTableWrite, hn, ← refuse_takeRequest]
    | some y =>
      have hlarge : 5 < r.id.toNat := hunknown.resolve_left (by rw [hn]; exact Option.some_ne_none y)
      simp only [doTableWrite, hn, if_pos hlarge, refuse_takeRequest]
  · dsimp only
    have hrange : (!r.tableInRange r.id.toNat || decide (r.payload.length ≠ 2 * r.count.toNat)) = true ↔
        (r.count.toNat = 0 ∨ 8 < r.count.toNat ∨ r.payload.length ≠ 2 * r.count.toNat ∨
          tableLength r.id.toNat < r.index.toNat + r.count.toNat) := by
      rw [Bool.or_eq_true, Bool.not_eq_true', tableInRange_eq_false, decide_eq_true_iff]
      omega
    have hdo : doTableWrite (takeRequest s x) x r =
        if !r.tableInRange r.id.toNat || decide (r.payload.length ≠ 2 * r.count.toNat) then
          answered s x (.refused .range)
        else if (s.side y).store.busy then answered s x (.refused .busy)
        else answered (s.onSide y (·.writeShadow (tableOffset r.id.toNat + r.index.toNat) (payloadHalves r.payload))) x
          .done := by
      simp only [doTableWrite, hn, if_neg (Nat.not_lt.mpr ht), takeRequest_side, refuse_takeRequest,
        respond_onSide_takeRequest]
    rw [hdo]
    refine ⟨fun hbad => ?_, fun hok hbusy => ?_, fun hok hidle hcanon => ?_⟩
    · rw [if_pos (hrange.mpr hbad)]
    · rw [if_neg (mt hrange.mp hok), if_pos ((busy_iff _).mpr hbusy)]
    · rw [if_neg (mt hrange.mp hok), if_neg (mt (busy_iff _).mp hidle)]
      have hlen := Invariants.payloadHalves_length r.count.toNat r.payload (by omega)
      have hfits := Invariants.tableOffset_add_le r.id.toNat ht
      have hwf : ((s.side y).store.bank (s.side y).store.shadow).wf = true := by
        obtain ⟨h0, h1⟩ := hcanon
        cases (s.side y).store.shadow
        · exact h0
        · exact h1
      obtain ⟨hin, hout⟩ := writeMany_read (payloadHalves r.payload) _ (tableOffset r.id.toNat + r.index.toNat) hwf
        (by rw [hlen]; simp only [Config.bankWords] at hfits; omega)
      rw [hlen] at hin hout
      refine ⟨_, rfl, ?_⟩
      rw [answered_side, onSide_side_same, SideState.writeShadow]
      refine ⟨fun k hk => ?_, fun w hw => ?_, fun b hb => ?_, ?_⟩
      · rw [Store.onBank_same]
        exact hin k hk
      · rw [Store.onBank_same]
        exact hout w hw
      · exact Store.onBank_other _ _ hb
      · refine congrArg (answered · x .done) (Reception.onSide_congr ?_)
        dsimp only
        rw [onBank_banks]
        rfl

/-- Settles O53, by the order of its refusals and the findings of the words read. -/
theorem tableReadAnswered : Obligations.TableReadAnswered := by
  intro x r s htake hk table
  rw [exec_request (i := .tableRead x) (fun _ => rfl) htake (requestKind_of_kind hk .tableRead rfl)]
  refine ⟨fun hunknown => ?_, fun y hn ht => ?_⟩
  · cases hn : r.names with
    | none => rw [doTableRead, hn, ← refuse_takeRequest]
    | some y =>
      have hlarge : 5 < table := hunknown.resolve_left (by rw [hn]; exact Option.some_ne_none y)
      simp only [doTableRead, hn]
      rw [if_pos hlarge, refuse_takeRequest]
  · have hsmall : ¬ 5 < (r.id.extractLsb' 0 7).toNat := Nat.not_lt.mpr ht
    have hok : ¬ (r.count.toNat = 0 ∨ 8 < r.count.toNat ∨ tableLength table < r.index.toNat + r.count.toNat) →
        ¬ (!r.tableInRange (r.id.extractLsb' 0 7).toNat) = true := fun h => by
      rw [tableInRange_eq_true h]
      exact Bool.false_ne_true
    refine ⟨fun hbad => ?_, fun hgood hmsb => ?_, fun hgood hmsb hnone => ?_, fun i hgood hmsb hactive => ?_⟩
    · have hrange : (!r.tableInRange (r.id.extractLsb' 0 7).toNat) = true := by
        rw [tableInRange_eq_false.mpr hbad]
        rfl
      simp only [doTableRead, hn, if_neg hsmall]
      rw [if_pos hrange, refuse_takeRequest]
    · simp only [doTableRead, hn, if_neg hsmall, if_neg (hok hgood), takeRequest_side, if_pos hmsb]
      rw [respond_takeRequest]
      congr 4
      funext w
      exact field_setWidth _
    · have hclear : ¬ r.id.msb = true := Bool.eq_false_iff.mp hmsb
      simp only [doTableRead, hn, if_neg hsmall, if_neg (hok hgood), takeRequest_side, if_neg hclear, hnone,
        refuse_takeRequest]
    · have hclear : ¬ r.id.msb = true := Bool.eq_false_iff.mp hmsb
      have hdo : doTableRead (takeRequest s x) x r = answered
          (settle (s.onSide y (·.findFailed (r.tableWords table))) y (s.side y).cond) x
          (.data ((r.tableWords table).map fun w =>
            BitVec.ofNat 32 ((((s.side y).store.bank i).read w).used w +
              (if (((s.side y).store.bank i).read w).failed then 65536 else 0)))) := by
        simp only [doTableRead, hn, if_neg hsmall, if_neg (hok hgood), takeRequest_side, if_neg hclear, hactive,
          respond_settle]
        congr 2
        refine List.map_congr_left fun w _ => ?_
        rw [activeWord_eq, activeBank_of_active hactive]
      refine ⟨_, rfl, ?_⟩
      rw [hdo]
      obtain ⟨groups, guard, hside⟩ := settle_side s y (·.findFailed (r.tableWords table)) (s.side y).cond
      have hanswered : ∀ (t : State) (a : Response), ((answered t x a).link x).responses =
          (t.link x).responses ++ [.ready a] := fun t a => by rw [answered, onLink_link_same]
      rw [answered_side, hside, hanswered, settle_responses]
      refine ⟨rfl, findFailed_found hactive _, findFailed_parity hactive _, ?_⟩
      have hcommute : ∀ (t : State) (a : Response), (answered t x a).besideSupervision y =
          answered (t.besideSupervision y) x a := fun t a => by cases x <;> cases y <;> rfl
      rw [hcommute, hcommute, settle_beside]
      refine congrArg (fun t => answered (State.besideSupervision t y) x _) (Reception.onSide_congr ?_)
      exact findFailed_frame _ _

end Sys2Proof.BankWords
end

section
/-! The command lane and the command logic (R117 to R122), the completion of a frame-end update (R95, R116), and the
two status records (R22 to R25, R180, R181). -/

namespace Sys2Proof.Records

open Sys2Proof Sys2Proof.Machine Sys2Proof.BankWords

/-! ## The command lane (R118, R119) -/

section
variable {e : Exposure}

theorem choose_waitingTx {tag : BitVec 4} {index : Nat} (hl : e.lane = .idle) (hs : e.slot = .waitingTx tag index) :
    e.choose = { e with lane := .exposure (exposureCell tag index), slot := .sent tag index 0 } := by
  rw [Exposure.choose, hl, hs]

theorem complete_of_busy (hl : e.lane ≠ .idle) : e.complete = Exposure.choose { e with lane := .idle } := by
  rw [Exposure.complete]
  cases h : e.lane with
  | idle => exact absurd h hl
  | exposure | pass => rfl

end

/-- Settles O42, by the slot and the pass-through queue. -/
theorem commandLaneCompletes : Obligations.CommandLaneCompletes := by
  intro x s hfree
  have hexec : exec (.commandLaneTxCompletion x) s =
      .next (s.onSide x fun d => { d with exposure := d.exposure.complete }) := exec_unheld hfree
  rw [hexec]
  refine ⟨fun hl => congrArg _ ?_, fun hl => congrArg _ (Reception.onSide_congr (congrArg
    (fun e => { s.side x with exposure := e }) ?_))⟩
  · have hsame : (s.side x).exposure.complete = (s.side x).exposure := by rw [Exposure.complete, hl]
    have hid : s.onSide x id = s := by cases x <;> rfl
    refine (Reception.onSide_congr ?_).trans hid
    rw [hsame]
    rfl
  · rw [complete_of_busy hl]
    obtain ⟨index, limits, last, tag, slot, pinned, queue, lane⟩ := (s.side x).exposure
    cases slot with
    | waitingTx => rfl
    | empty | sent => cases queue <;> rfl

/-! ## The command logic (R117) -/

section
variable {e : Exposure} {index : Nat}

theorem commandLogic_makes (hi : e.index = some index) (hlast : e.last ≠ some index) (hs : e.slot = .empty) :
    e.commandLogic =
      Exposure.choose { e with tag := e.tag + 1, slot := .waitingTx (e.tag + 1) index, last := some index } := by
  rw [Exposure.commandLogic, hi, hs]
  exact if_neg hlast

theorem commandLogic_keeps (h : e.index = none ∨ e.last = e.index ∨ e.slot ≠ .empty) : e.commandLogic = e := by
  rw [Exposure.commandLogic]
  split
  · rename_i index hi hs
    rcases h with h | h | h
    · rw [hi] at h
      cases h
    · rw [if_pos (h.trans hi)]
    · exact absurd hs h
  · rfl

/-- The command made waits for a lane that is sending, and is sent at once on an idle one. -/
theorem commandLogic_made (hi : e.index = some index) (hlast : e.last ≠ some index) (hs : e.slot = .empty) :
    (e.lane ≠ .idle → e.commandLogic =
      { e with tag := e.tag + 1, last := some index, slot := .waitingTx (e.tag + 1) index }) ∧
    (e.lane = .idle → e.commandLogic =
      { e with
        tag := e.tag + 1, last := some index, slot := .sent (e.tag + 1) index 0
        lane := .exposure (exposureCell (e.tag + 1) index) }) := by
  rw [commandLogic_makes hi hlast hs]
  exact ⟨fun hl => choose_busy _ hl, fun hl => choose_waitingTx (e :=
    { e with tag := e.tag + 1, slot := .waitingTx (e.tag + 1) index, last := some index }) hl rfl⟩

/-- A slot that holds the tag is acknowledged. -/
theorem acknowledges_of_slot {tag : BitVec 4}
    (h : e.slot = .waitingTx tag index ∨ ∃ acks, e.slot = .sent tag index acks) : e.acknowledges tag = true := by
  rw [Exposure.acknowledges]
  rcases h with h | ⟨acks, h⟩ <;> rw [h] <;> exact beq_self_eq_true tag

end

/-! ## A CAMERA STATUS cell (R22 to R25, R122) -/

section
variable {d : SideState} {body : List Byte}

/-- An undamaged status cell is stored and handed to the Exposure Unit. -/
theorem statusCell_good (h : cellGood 0x04 10 body = true) :
    let record := statusFields body false
    let acked := d.exposure.acknowledges record.tag
    d.statusCell body =
      { d with
        status := record
        exposure := if acked then d.exposure.acknowledge else d.exposure
        cond :=
          { d.cond with
            statusCksum := false, cameraNoAck := d.cond.cameraNoAck && !acked
            cameraFault := record.faults &&& d.settings.cameraFaultMask != 0
            tempHigh := decide (d.settings.tempLimit < record.temperature.toInt) } } := by
  dsimp only
  rw [SideState.statusCell, if_pos h, SideState.handStatus]
  have hexp : (d.storeStatus body false).exposure = d.exposure := rfl
  rw [hexp]
  cases d.exposure.acknowledges (statusFields body false).tag
  · rw [if_neg Bool.false_ne_true, if_neg Bool.false_ne_true, Bool.not_false, Bool.and_true]
    rfl
  · rw [if_pos rfl, if_pos rfl, Bool.not_true, Bool.and_false]
    rfl

/-- A damaged status cell is stored only under ALWAYS and with the length of a status cell. -/
theorem statusCell_damaged (h : cellGood 0x04 10 body = false) :
    let stored := decide (d.settings.statusStore = .always) && decide (body.length + 1 = 10)
    let record := statusFields body true
    d.statusCell body =
      { d with
        status := if stored then record else d.status
        cond :=
          { d.cond with
            statusCksum := true
            cameraFault :=
              if stored then record.faults &&& d.settings.cameraFaultMask != 0 else d.cond.cameraFault
            tempHigh :=
              if stored then decide (d.settings.tempLimit < record.temperature.toInt) else d.cond.tempHigh } } := by
  dsimp only
  rw [SideState.statusCell, if_neg (Bool.eq_false_iff.mp h)]
  by_cases hs : d.settings.statusStore = .always ∧ body.length + 1 = 10
  · rw [if_pos hs, decide_eq_true hs.1, decide_eq_true hs.2]
    rfl
  · have hfalse : (decide (d.settings.statusStore = .always) && decide (body.length + 1 = 10)) = false := by
      rw [← Bool.decide_and]
      exact decide_eq_false hs
    rw [if_neg hs, hfalse]
    rfl

/-- Both cases of a status cell in one equation. -/
theorem statusCell_eq (d : SideState) (body : List Byte) :
    let good := cellGood 0x04 10 body
    let stored := good || (decide (d.settings.statusStore = .always) && decide (body.length + 1 = 10))
    let acked := good && d.exposure.acknowledges (statusFields body false).tag
    d.statusCell body =
      { d with
        status := if stored then statusFields body (!good) else d.status
        exposure := if acked then d.exposure.acknowledge else d.exposure
        cond :=
          { d.cond with
            statusCksum := !good
            cameraNoAck := d.cond.cameraNoAck && !acked
            cameraFault :=
              if stored then (statusFields body (!good)).faults &&& d.settings.cameraFaultMask != 0
              else d.cond.cameraFault
            tempHigh :=
              if stored then decide (d.settings.tempLimit < (statusFields body (!good)).temperature.toInt)
              else d.cond.tempHigh } } := by
  dsimp only
  cases h : cellGood 0x04 10 body with
  | true => rw [statusCell_good h, Bool.true_or, Bool.true_and, if_pos rfl, Bool.not_true, if_pos rfl, if_pos rfl]
  | false =>
    rw [statusCell_damaged h, Bool.false_or, Bool.false_and, Bool.not_false, Bool.and_true,
      if_neg Bool.false_ne_true]

end

theorem exec_cameraStatus {s : State} {x : Side} {body : List Byte} (hfree : s.resetHeld = false)
    (hw : (s.side x).pipe.waiting = none) : exec (.cameraStatus x body) s = .next (takeStatus s x body) := by
  have hexec : exec (.cameraStatus x body) s = .next (arrive s x ⟨.status, body⟩) := exec_unheld hfree
  rw [hexec, Reception.arrive_of_not_waiting _ hw]
  rfl

/-- Settles O20, by the cases of a status cell. -/
theorem statusCellHandled : Obligations.StatusCellHandled := by
  intro x body s hfree hw
  refine ⟨_, exec_cameraStatus hfree hw, ?_⟩
  obtain ⟨groups, guard, hside⟩ := settle_side s x (·.statusCell body) (s.side x).cond
  have hbeside := settle_beside (s.onSide x (·.statusCell body)) x (s.side x).cond
  have heq := statusCell_eq (s.side x) body
  dsimp only at heq ⊢
  rw [takeStatus, hside, hbeside]
  refine ⟨?_, ?_, ?_, congrArg (State.besideSupervision · x) (Reception.onSide_congr ?_)⟩ <;> dsimp only
  all_goals rw [heq]

/-- Settles O43, by the command logic on an emptied slot. -/
theorem commandLogicRuns : Obligations.CommandLogicRuns := by
  refine ⟨fun e => ⟨fun index => commandLogic_made, commandLogic_keeps⟩, ?_⟩
  intro x body s hfree hw hgood
  dsimp only
  intro index hslot
  have hack := acknowledges_of_slot hslot
  refine ⟨_, exec_cameraStatus hfree hw, ?_⟩
  obtain ⟨groups, guard, hside⟩ := settle_side s x (·.statusCell body) (s.side x).cond
  rw [takeStatus, hside, statusCell_good hgood]
  dsimp only
  rw [hack, if_pos rfl, Bool.not_true, Bool.and_false]
  let emptied : Exposure := { (s.side x).exposure with slot := .empty }
  exact ⟨rfl, fun hlast => commandLogic_keeps (e := emptied) (.inr (.inl hlast)),
    fun new hi hlast hl => (commandLogic_made (e := emptied) hi hlast rfl).1 hl,
    fun new hi hlast hl => (commandLogic_made (e := emptied) hi hlast rfl).2 hl⟩

/-! ## The completion of an update (R65, R95, R96, R116) -/

theorem settle_of_cond {s : State} {x : Side} {before : Conditions} (h : before = (s.side x).cond) :
    settle s x before = s := by
  rw [h, Invariants.settle_refl]

/-- Settles O41, by the cases of the update in flight. -/
theorem updateCompletes : Obligations.UpdateCompletes := by
  intro x s hfree
  have hexec : exec (.frameEndUpdateCompletion x) s = execFrameEndUpdateCompletion x s := rfl
  rw [hexec, execFrameEndUpdateCompletion, exec_unheld hfree]
  refine ⟨fun hnone => ?_, fun u hu hdrop => ?_, fun u hu hkeep => ?_⟩
  · rw [hnone]
  · rw [hu]
    dsimp only
    have hdone : (s.side x).completeUpdate u = { s.side x with glare := { (s.side x).glare with update := none } } :=
      if_pos hdrop
    rw [Reception.onSide_congr (g := fun d => { d with glare := { d.glare with update := none } }) hdone,
      settle_of_cond (by rw [onSide_side_same])]
  · rw [hu]
    refine ⟨_, rfl, ?_⟩
    have hstore : (s.side x).completeUpdate u = (s.side x).storeResult u := if_neg (Bool.eq_false_iff.mp hkeep)
    obtain ⟨groups, guard, hside⟩ := settle_side s x (·.completeUpdate u) (s.side x).cond
    dsimp only
    rw [hside, settle_beside]
    dsimp only
    rw [hstore]
    refine ⟨?_, rfl, ?_, rfl, congrArg (State.besideSupervision · x) (Reception.onSide_congr hstore)⟩
    all_goals
      obtain ⟨_, _, _, _, _, _, _, _, _, _, _, clamp⟩ := u
      cases clamp <;> rfl

/-! ## The display status record (R39, R180, R181) -/

/-- What judging DISPLAY_FAULT after a change of a link's display status record leaves, once it is settled. -/
theorem displayJudged (s : State) (x : Side) (h : LinkState → LinkState)
    (hframe : h (s.link x) =
      { s.link x with display := (h (s.link x)).display, displayTimer := (h (s.link x)).displayTimer }) :
    let t := settle (judgeDisplay (s.onLink x h) x) x (s.side x).cond
    (t.link x).display = (h (s.link x)).display ∧ (t.link x).displayTimer = (h (s.link x)).displayTimer ∧
    (t.side x).cond =
      { (s.side x).cond with
        displayFault := (h (s.link x)).display.silent ||
          ((h (s.link x)).display.faults &&& (s.side x).settings.displayFaultMask != 0) } ∧
    t.besideSupervision x =
      ((s.onSide x fun d => { d with cond := (t.side x).cond }).onLink x fun l =>
        { l with display := (t.link x).display, displayTimer := (t.link x).displayTimer }).besideSupervision x := by
  intro t
  have hbeside : t.besideSupervision x = (judgeDisplay (s.onLink x h) x).besideSupervision x := settle_beside _ x _
  obtain ⟨a, b, hlink⟩ := Invariants.beside_link hbeside x
  have hcond := besideSupervision_cond (beside_side hbeside)
  simp only [judgeDisplay, onSide_link, onLink_link_same, onSide_side_same, onLink_side] at hlink hcond
  rw [hlink, hcond]
  refine ⟨rfl, rfl, rfl, hbeside.trans (congrArg (State.besideSupervision · x) ?_)⟩
  rw [judgeDisplay, onLink_onSide, onLink_link_same]
  have hl : ∀ u : State, u.link x = s.link x → u.onLink x h =
      u.onLink x fun l => { l with display := (h (s.link x)).display, displayTimer := (h (s.link x)).displayTimer } := by
    intro u hu
    cases x <;> simp only [State.link] at hu hframe <;> simp only [State.onLink, hu, State.link] <;> rw [hframe]
  refine (hl _ (onSide_link _ _ _ _)).trans (congrArg (State.onLink · x _) (Reception.onSide_congr rfl))

/-- Settles O26, by the judging of DISPLAY_FAULT after each change of the record. -/
theorem displayRecordKept : Obligations.DisplayRecordKept := by
  intro x body s hfree
  have hcell : exec (.displayStatus x body) s = execDisplayStatus x body s := rfl
  have hexpiry : exec (.displayTimeoutExpiry x) s = execDisplayTimeoutExpiry x s := rfl
  rw [hcell, hexpiry, execDisplayStatus, execDisplayTimeoutExpiry, exec_unheld hfree, exec_unheld hfree]
  refine ⟨fun hgood => ?_, fun hbad => if_neg (Bool.eq_false_iff.mp hbad), fun hdue => ?_,
    fun hnot => if_neg (Bool.eq_false_iff.mp hnot)⟩
  · refine ⟨_, if_pos hgood, ?_⟩
    obtain ⟨hdisplay, htimer, hcond, hrest⟩ := displayJudged s x (·.storeDisplay body s.timeBase) rfl
    refine ⟨hdisplay, htimer, hcond.trans ?_, hrest⟩
    dsimp only
    rw [hdisplay]
  · refine ⟨_, if_pos hdue, ?_⟩
    obtain ⟨hdisplay, htimer, hcond, hrest⟩ :=
      displayJudged s x (fun l => { l.setSilent true with displayTimer := none }) rfl
    refine ⟨hdisplay, htimer, hcond, hrest.trans ?_⟩
    rw [htimer]

end Sys2Proof.Records
end

section
/-! The pipeline pixel by pixel and the statistics tap (R72 to R84, R90), and the results of a frame-end update (R97 to
R102, R113, R115). -/

namespace Sys2Proof.Arithmetic

open Sys2Proof Sys2Proof.Machine

/-! ## Lists by index -/

section
variable {α β : Type}

/-- A list read by index. -/
theorem map_eq_map_range {l : List α} {n : Nat} (h : l.length = n) (d : α) (f : α → β) :
    l.map f = (List.range n).map fun i => f (l.getD i d) := by
  subst h
  refine List.ext_getElem (by simp) fun i hi _ => ?_
  simp only [List.length_map] at hi
  simp [List.getD_eq_getElem?_getD, List.getElem?_eq_getElem hi]

theorem getD_map_range (f : Nat → α) (d : α) {n i : Nat} (h : i < n) : ((List.range n).map f).getD i d = f i := by
  simp [List.getD_eq_getElem?_getD, h]

/-- The sum over the elements that a test keeps. -/
theorem sum_map_filter (l : List α) (p : α → Bool) (f : α → Nat) :
    ((l.filter p).map f).sum = (l.map fun a => if p a then f a else 0).sum := by
  induction l with
  | nil => rfl
  | cons a l ih =>
    rw [List.filter_cons, List.map_cons, List.sum_cons, ← ih]
    cases p a
    · exact (Nat.zero_add _).symm
    · rfl

theorem length_filter_eq_sum (l : List α) (p : α → Bool) :
    (l.filter p).length = (l.map fun a => if p a then 1 else 0).sum := by
  rw [← sum_map_filter, List.map_const', List.sum_replicate, smul_eq_mul, Nat.mul_one]

/-- The sum over a list with the positions of its elements. -/
theorem sum_map_zipIdx (l : List α) (d : α) (g : α × Nat → Nat) :
    (l.zipIdx.map g).sum = ((List.range l.length).map fun i => g (l.getD i d, i)).sum := by
  refine congrArg List.sum (List.ext_getElem (by simp) fun i hi _ => ?_)
  simp only [List.length_map, List.length_zipIdx] at hi
  simp [List.getD_eq_getElem?_getD, List.getElem?_eq_getElem hi]

/-- The largest of a start value and a list: it bounds them all and is one of them. -/
theorem foldl_max (l : List Nat) : ∀ a : Nat, a ≤ l.foldl max a ∧ (∀ v ∈ l, v ≤ l.foldl max a) ∧
    (l.foldl max a = a ∨ l.foldl max a ∈ l) := by
  induction l with
  | nil => exact fun a => ⟨Nat.le_refl a, fun v hv => absurd hv List.not_mem_nil, .inl rfl⟩
  | cons b l ih =>
    intro a
    obtain ⟨hge, hall, hone⟩ := ih (max a b)
    rw [List.foldl_cons]
    refine ⟨(Nat.le_max_left a b).trans hge, fun v hv => ?_, ?_⟩
    · rcases List.mem_cons.mp hv with rfl | hv
      · exact (Nat.le_max_right a v).trans hge
      · exact hall v hv
    · rcases hone with h | h
      · rcases Nat.le_total a b with hab | hab
        · rw [h, max_eq_right hab]
          exact .inr (List.mem_cons_self ..)
        · exact .inl (h.trans (max_eq_left hab))
      · exact .inr (List.mem_cons_of_mem _ h)

end

/-! ## The rounded mean of four points (R73, R78) -/

section
variable {a b c d tw th fx fy : Nat}

/-- A mean of values that one value bounds from above is at most that value. -/
theorem interpolate_le {most : Nat} (hw : 0 < tw) (hh : 0 < th) (hfx : fx ≤ tw) (hfy : fy ≤ th) (ha : a ≤ most)
    (hb : b ≤ most) (hc : c ≤ most) (hd : d ≤ most) : interpolate a b c d tw th fx fy ≤ most := by
  have hpos : 0 < tw * th := Nat.mul_pos hw hh
  have hrow : ∀ p q : Nat, p ≤ most → q ≤ most → p * (tw - fx) + q * fx ≤ most * tw := fun p q hp hq => by
    calc p * (tw - fx) + q * fx ≤ most * (tw - fx) + most * fx :=
          Nat.add_le_add (Nat.mul_le_mul_right _ hp) (Nat.mul_le_mul_right _ hq)
      _ = most * tw := by rw [← Nat.mul_add, Nat.sub_add_cancel hfx]
  have hsum : (a * (tw - fx) + b * fx) * (th - fy) + (c * (tw - fx) + d * fx) * fy ≤ most * (tw * th) := by
    calc _ ≤ most * tw * (th - fy) + most * tw * fy :=
          Nat.add_le_add (Nat.mul_le_mul_right _ (hrow a b ha hb)) (Nat.mul_le_mul_right _ (hrow c d hc hd))
      _ = most * (tw * th) := by rw [← Nat.mul_add, Nat.sub_add_cancel hfy, Nat.mul_assoc]
  have hhalf : tw * th / 2 < tw * th := Nat.div_lt_self hpos (by omega)
  refine Nat.lt_succ_iff.mp ((Nat.div_lt_iff_lt_mul hpos).mpr ?_)
  rw [Nat.succ_mul]
  omega

/-- A mean of values that one value bounds from below is at least that value. -/
theorem le_interpolate {least : Nat} (hw : 0 < tw) (hh : 0 < th) (hfx : fx ≤ tw) (hfy : fy ≤ th) (ha : least ≤ a)
    (hb : least ≤ b) (hc : least ≤ c) (hd : least ≤ d) : least ≤ interpolate a b c d tw th fx fy := by
  have hrow : ∀ p q : Nat, least ≤ p → least ≤ q → least * tw ≤ p * (tw - fx) + q * fx := fun p q hp hq => by
    calc least * tw = least * (tw - fx) + least * fx := by rw [← Nat.mul_add, Nat.sub_add_cancel hfx]
      _ ≤ _ := Nat.add_le_add (Nat.mul_le_mul_right _ hp) (Nat.mul_le_mul_right _ hq)
  have hsum : least * (tw * th) ≤ (a * (tw - fx) + b * fx) * (th - fy) + (c * (tw - fx) + d * fx) * fy := by
    calc least * (tw * th) = least * tw * (th - fy) + least * tw * fy := by
          rw [← Nat.mul_add, Nat.sub_add_cancel hfy, Nat.mul_assoc]
      _ ≤ _ := Nat.add_le_add (Nat.mul_le_mul_right _ (hrow a b ha hb)) (Nat.mul_le_mul_right _ (hrow c d hc hd))
  exact (Nat.le_div_iff_mul_le (Nat.mul_pos hw hh)).mpr (hsum.trans (Nat.le_add_right _ _))

/-- At the first point the mean is that point. -/
theorem interpolate_first (hw : 0 < tw) (hh : 0 < th) : interpolate a b c d tw th 0 0 = a := by
  have hpos : 0 < tw * th := Nat.mul_pos hw hh
  have hsum : (a * (tw - 0) + b * 0) * (th - 0) + (c * (tw - 0) + d * 0) * 0 = a * (tw * th) := by
    rw [Nat.mul_zero, Nat.mul_zero, Nat.sub_zero, Nat.sub_zero, Nat.add_zero, Nat.add_zero, Nat.mul_assoc]
  rw [interpolate, hsum, Nat.mul_comm a, Nat.mul_add_div hpos, Nat.div_eq_of_lt (Nat.div_lt_self hpos (by omega)), Nat.add_zero]

/-- A point of weight 0 does not count. -/
theorem interpolate_weightedAt (m : List Nat) (i j : Nat) :
    interpolate (mapAt m i j) (weightedAt m (i + 1) j fx) (weightedAt m i (j + 1) fy)
        (weightedAt m (i + 1) (j + 1) (fx * fy)) tw th fx fy =
      interpolate (mapAt m i j) (mapAt m (i + 1) j) (mapAt m i (j + 1)) (mapAt m (i + 1) (j + 1)) tw th fx fy := by
  have hx : ∀ j, weightedAt m (i + 1) j fx * fx = mapAt m (i + 1) j * fx := fun j => by
    rw [weightedAt]
    split
    · rename_i h
      rw [h, Nat.mul_zero, Nat.mul_zero]
    · rfl
  have hrow : (weightedAt m i (j + 1) fy * (tw - fx) + weightedAt m (i + 1) (j + 1) (fx * fy) * fx) * fy =
      (mapAt m i (j + 1) * (tw - fx) + mapAt m (i + 1) (j + 1) * fx) * fy := by
    rcases Nat.eq_zero_or_pos fy with h | h
    · rw [h, Nat.mul_zero, Nat.mul_zero]
    rcases Nat.eq_zero_or_pos fx with h' | h'
    · rw [h', Nat.mul_zero, Nat.mul_zero, weightedAt, if_neg (by omega)]
    · rw [weightedAt, weightedAt, if_neg (by omega), if_neg (Nat.mul_pos h' h).ne']
  unfold interpolate
  dsimp only
  rw [hx, hrow]

end

/-! ## The attenuation (R78) -/

/-- A position on the centre grid, with its offset as a remainder. -/
theorem centreCell_eq (pos size last : Nat) :
    centreCell pos size last =
      if pos < size / 2 then (0, 0)
      else if last ≤ (pos - size / 2) / size then (last, 0)
      else ((pos - size / 2) / size, (pos - size / 2) % size) := by
  rw [centreCell]
  dsimp only
  rw [← Nat.mod_eq_sub_div_mul]

theorem centreCell_offset_le (pos last : Nat) {size : Nat} (h : 0 < size) : (centreCell pos size last).2 ≤ size := by
  rw [centreCell_eq]
  split
  · exact Nat.zero_le _
  · split
    · exact Nat.zero_le _
    · exact (Nat.mod_lt _ h).le

/-- The attenuation as the mean of the four map values around the pixel. -/
theorem attenuation_eq (v : FrameValues) (m : List Nat) (x y : Nat) :
    attenuation v m x y =
      interpolate (mapAt m (centreCell x (v.width / 16) 15).1 (centreCell y (v.height / 12) 11).1)
        (mapAt m ((centreCell x (v.width / 16) 15).1 + 1) (centreCell y (v.height / 12) 11).1)
        (mapAt m (centreCell x (v.width / 16) 15).1 ((centreCell y (v.height / 12) 11).1 + 1))
        (mapAt m ((centreCell x (v.width / 16) 15).1 + 1) ((centreCell y (v.height / 12) 11).1 + 1))
        (v.width / 16) (v.height / 12) (centreCell x (v.width / 16) 15).2 (centreCell y (v.height / 12) 11).2 :=
  interpolate_weightedAt m _ _

theorem mapAt_le {m : List Nat} {most : Nat} (h : ∀ value ∈ m, value ≤ most) (i j : Nat) : mapAt m i j ≤ most := by
  rw [mapAt, List.getD_eq_getElem?_getD]
  cases hget : m[j * 16 + i]? with
  | none => exact Nat.zero_le _
  | some value => exact h value (List.mem_of_getElem? hget)

/-! ## The statistics tap (R76, R90) -/

/-- The pixels of a tile column, as a sum over the line. -/
theorem sum_columnPixels (tw : Nat) (px : List Rgb) (i : Nat) (f : Rgb → Nat) :
    ((columnPixels tw px i).map f).sum =
      ((List.range px.length).map fun x => if x / tw = i then f (px.getD x Rgb.black) else 0).sum := by
  rw [columnPixels, List.map_map, sum_map_filter, sum_map_zipIdx px Rgb.black]
  simp only [Function.comp_apply, beq_iff_eq]

theorem filter_columnPixels (tw : Nat) (px : List Rgb) (i : Nat) (p : Rgb → Bool) :
    ((columnPixels tw px i).filter p).length =
      ((List.range px.length).map fun x =>
        if x / tw = i then if p (px.getD x Rgb.black) then 1 else 0 else 0).sum := by
  rw [length_filter_eq_sum, sum_columnPixels tw px i fun q => if p q then 1 else 0]

/-- What one line adds to the record of a tile. -/
theorem tapTile_eq (v : FrameValues) (y : Nat) (px : List Rgb) (tile : Nat) (old : Tile) :
    let sumOver := fun f : Rgb → Nat =>
      ((List.range px.length).map fun x =>
        if x / (v.width / 16) = tile % 16 ∧ y / (v.height / 12) = tile / 16 then f (px.getD x Rgb.black) else 0).sum
    tapTile v y px tile old =
      ⟨old.luma + sumOver luma, old.clips + sumOver fun q => if clipped v.clipLevel q then 1 else 0⟩ := by
  dsimp only
  rw [tapTile]
  by_cases h : y / tileHeight v.height = tile / 16
  · have h' : y / (v.height / 12) = tile / 16 := h
    rw [if_pos h]
    dsimp only
    rw [sum_columnPixels, filter_columnPixels]
    simp only [h', and_true, tileWidth]
    rfl
  · have h' : ¬ y / (v.height / 12) = tile / 16 := h
    rw [if_neg h]
    simp only [h', and_false, if_false, List.map_const', List.sum_replicate, smul_eq_mul, Nat.mul_zero, Nat.add_zero]

/-- Settles O36, by the ranges of the tone curve, of the fade and of the flip. -/
theorem pixelsInRange : Obligations.PixelsInRange := by
  intro v k y px hv p hp
  obtain ⟨-, hr, hg, hb, hfade⟩ := hv
  have htone : ∀ c, stage5 v c ≤ 255 := fun c => by
    unfold stage5
    dsimp only
    omega
  have hstage : ∀ wv c, wv ≤ 255 → stage6 k.fade wv (stage5 v c) ≤ 255 := fun wv c hwv => by
    have hout : stage5 v c * (64 - k.fade) ≤ 255 * (64 - k.fade) := Nat.mul_le_mul_right _ (htone c)
    have hwarn : wv * k.fade ≤ 255 * k.fade := Nat.mul_le_mul_right _ hwv
    unfold stage6
    omega
  have hmem : p ∈ px.zipIdx.map fun (q, x) => shapePixel v k x y q := by
    rw [shapeLine, flipLine] at hp
    dsimp only at hp
    split at hp
    · exact List.mem_reverse.mp hp
    · exact hp
  obtain ⟨⟨q, x⟩, -, rfl⟩ := List.mem_map.mp hmem
  exact ⟨hstage _ _ hr, hstage _ _ hg, hstage _ _ hb⟩

/-- Settles O37, stage by stage. -/
theorem pixelStages : Obligations.PixelStages := by
  intro v k y x px p hp
  have hlen : x < px.length := by
    by_contra h
    rw [List.getElem?_eq_none (Nat.le_of_not_lt h)] at hp
    cases hp
  have hzip : px.zipIdx[x]? = some (p, x) := by rw [List.getElem?_zipIdx, hp, Nat.zero_add]; rfl
  have hshape : (px.zipIdx.map fun (q, x) => shapePixel v k x y q)[x]? = some (shapePixel v k x y p) := by
    rw [List.getElem?_map, hzip]
    rfl
  dsimp only
  refine ⟨?_, rfl, ?_, fun hw hh => ⟨?_, ?_, ?_, fun hx hy => ?_, ?_, fun most hmost => ?_, fun hx hy => ?_⟩,
    fun c wv => ⟨fun hm => ?_, fun hm => ?_⟩, fun g => ⟨rfl, ?_, fun tile old hold => ?_⟩⟩
  · rw [correctLine, List.getElem?_map, hzip]
    rfl
  · rw [shapeLine, flipLine]
    dsimp only
    split
    · rw [List.getElem?_reverse (by simp only [List.length_map, List.length_zipIdx]; omega), List.length_map,
        List.length_zipIdx, show px.length - 1 - (px.length - 1 - x) = x by omega, hshape]
      rfl
    · rw [hshape]
      rfl
  · rw [shadingGain, ← Nat.mod_eq_sub_div_mul, ← Nat.mod_eq_sub_div_mul]
    rfl
  · rw [shadingGain, ← Nat.mod_eq_sub_div_mul, ← Nat.mod_eq_sub_div_mul]
    exact le_interpolate hw hh (Nat.mod_lt _ hw).le (Nat.mod_lt _ hh).le
      ((min_le_left _ _).trans (min_le_left _ _)) ((min_le_left _ _).trans (min_le_right _ _))
      ((min_le_right _ _).trans (min_le_left _ _)) ((min_le_right _ _).trans (min_le_right _ _))
  · rw [shadingGain, ← Nat.mod_eq_sub_div_mul, ← Nat.mod_eq_sub_div_mul]
    exact interpolate_le hw hh (Nat.mod_lt _ hw).le (Nat.mod_lt _ hh).le
      ((le_max_left _ _).trans (le_max_left _ _)) ((le_max_right _ _).trans (le_max_left _ _))
      ((le_max_left _ _).trans (le_max_right _ _)) ((le_max_right _ _).trans (le_max_right _ _))
  · rw [shadingGain, ← Nat.mod_eq_sub_div_mul, ← Nat.mod_eq_sub_div_mul]
    dsimp only [tileWidth, tileHeight]
    rw [hx, hy]
    exact interpolate_first hw hh
  · rw [attenuation_eq, centreCell_eq, centreCell_eq]
    rfl
  · rw [attenuation_eq]
    exact interpolate_le hw hh (centreCell_offset_le _ _ hw) (centreCell_offset_le _ _ hh) (mapAt_le hmost _ _)
      (mapAt_le hmost _ _) (mapAt_le hmost _ _) (mapAt_le hmost _ _)
  · rw [attenuation_eq, centreCell_eq, centreCell_eq, if_pos hx, if_pos hy]
    exact interpolate_first hw hh
  · rw [hm]
    generalize (max 0 (min 255 _) : Int).toNat = out
    omega
  · rw [hm]
    omega
  · simp only [tapLine, List.length_map, List.length_zipIdx]
    rfl
  · have hstart : (if g.gathering then g.tiles else zeroTiles)[tile]? = some old := hold
    rw [tapLine]
    dsimp only
    rw [List.getElem?_map, List.getElem?_zipIdx, hstart]
    simp only [Option.map_some, Nat.zero_add, tapTile_eq, clipped, Bool.or_eq_true, decide_eq_true_eq, or_assoc]
    rfl

/-! ## The results of an update (R97 to R102, R113, R115) -/

section
variable (u : Update) (p : Published)

/-- The candidates of an update. -/
def candidatesOf (u : Update) (p : Published) : List (Option Nat) :=
  candidates u.glareWords (u.result p).night (clippedFractions (tileArea p.width p.height) p.tiles)

/-- The results of an update, part by part. -/
theorem result_eq :
    let means := tileMeans (tileArea p.width p.height) p.tiles
    let fractions := clippedFractions (tileArea p.width p.height) p.tiles
    let stepped := nightStep u.glareWords u.night u.counter (sceneMean means)
    let target := targetMap u.glareWords (candidates u.glareWords stepped.1 fractions)
    let exposed := exposurePart u.exposeWords u.weights means target u.index u.pinned
    u.result p =
      ⟨stepped.1, stepped.2, target, rampMap u.glareWords u.current target, zoneCountOf target,
        decide (u.zoneLimit < zoneCountOf target), exposed.1, exposed.2, decide (u.pinnedFrames ≤ exposed.2)⟩ := by
  unfold Update.result
  rfl

theorem result_night : ((u.result p).night, (u.result p).counter) =
    nightStep u.glareWords u.night u.counter (sceneMean (tileMeans (tileArea p.width p.height) p.tiles)) := by
  rw [result_eq]

theorem result_target : (u.result p).target = targetMap u.glareWords (candidatesOf u p) := by
  rw [candidatesOf, result_eq]

theorem result_current : (u.result p).current = rampMap u.glareWords u.current (u.result p).target := by
  rw [result_eq]

theorem getD_rampMap (words current target : List Nat) {i : Nat} (h : i < 192) :
    (rampMap words current target).getD i 0 = rampStep words (current.getD i 0) (target.getD i 0) :=
  getD_map_range _ _ h

/-- One step of the ramp, by where the target lies (R101). -/
theorem rampStep_cases (words : List Nat) (c goal : Nat) :
    (c < goal → rampStep words c goal = min goal (c + glareWord words 2)) ∧
    (goal < c → rampStep words c goal = max goal (c - glareWord words 3)) ∧ (c = goal → rampStep words c goal = c) := by
  rw [rampStep]
  refine ⟨fun h => if_pos h, fun h => ?_, fun h => ?_⟩
  · rw [if_neg (Nat.not_lt.mpr h.le), if_pos h]
  · rw [if_neg (Nat.not_lt.mpr h.ge), if_neg (Nat.not_lt.mpr h.le)]

/-- The own value of tile i, 0 for a tile that is no candidate. -/
theorem candidatesOf_getD (i : Nat) (h : i < p.tiles.length) :
    ((candidatesOf u p).getD i none).getD 0 =
      if (u.result p).night = .night ∧
          glareWord u.glareWords 1 ≤ (p.tiles.getD i ⟨0, 0⟩).clips * 256 / tileArea p.width p.height then
        ownValue u.glareWords ((p.tiles.getD i ⟨0, 0⟩).clips * 256 / tileArea p.width p.height)
      else 0 := by
  rw [candidatesOf, candidates, clippedFractions, List.map_map, List.getD_eq_getElem?_getD, List.getElem?_map,
    List.getD_eq_getElem?_getD, List.getElem?_eq_getElem h]
  simp only [Option.map_some, Option.getD_some, Function.comp_apply]
  split <;> rfl

/-- By day there is no candidate, and every target is 0. -/
theorem tileTarget_of_none {words : List Nat} {cands : List (Option Nat)} (h : ∀ c ∈ cands, c = none) (i : Nat) :
    tileTarget words cands i = 0 := by
  have hown : (cands.getD i none).getD 0 = 0 := by
    rw [List.getD_eq_getElem?_getD]
    cases hget : cands[i]? with
    | none => rfl
    | some c => rw [Option.getD_some, h c (List.mem_of_getElem? hget)]; rfl
  rw [tileTarget]
  dsimp only
  rw [hown]
  obtain ⟨-, -, hone⟩ := foldl_max (cands.zipIdx.map fun (c, k) =>
    if neighbours (i % 16) (i / 16) (k % 16) (k / 16) then c.getD 0 / 2 else 0) 0
  have hzero : ∀ v ∈ cands.zipIdx.map (fun (c, k) =>
      if neighbours (i % 16) (i / 16) (k % 16) (k / 16) then c.getD 0 / 2 else 0), v = 0 := by
    intro v hv
    obtain ⟨⟨c, k⟩, hc, rfl⟩ := List.mem_map.mp hv
    have hnone : c = none := h c (List.fst_mem_of_mem_zipIdx hc)
    dsimp only
    rw [hnone]
    exact ite_self _
  rw [hone.elim id (hzero _), Nat.min_zero]

/-- Settles O38, by the limit of a target, the candidates of the day, and the cases of a ramp step. -/
theorem updateDimsOnlyAtNight : Obligations.UpdateDimsOnlyAtNight := by
  intro u p
  refine ⟨fun v hv => ?_, fun hday v hv => ?_, fun i hi => ?_, by rw [result_eq]; rfl, by rw [result_eq]⟩
  · rw [result_target, targetMap] at hv
    obtain ⟨i, -, rfl⟩ := List.mem_map.mp hv
    exact min_le_left _ _
  · rw [result_target, targetMap] at hv
    obtain ⟨i, -, rfl⟩ := List.mem_map.mp hv
    refine tileTarget_of_none (fun c hc => ?_) i
    obtain ⟨q, -, rfl⟩ := List.mem_map.mp hc
    rw [hday]
    exact if_neg fun h => NightState.noConfusion h.1
  · dsimp only
    rw [result_current u p, getD_rampMap _ _ _ hi]
    obtain ⟨hup, hdown, hstay⟩ := rampStep_cases u.glareWords (u.current.getD i 0) ((u.result p).target.getD i 0)
    refine ⟨hup, hdown, hstay, ?_⟩
    omega

/-- One value that the target of a tile is the largest of: half a neighbour's own value, and 0 for other tiles. -/
def halfOf (cands : List (Option Nat)) (i k : Nat) : Nat :=
  if neighbours (i % 16) (i / 16) (k % 16) (k / 16) then (cands.getD k none).getD 0 / 2 else 0

theorem tileTarget_eq (words : List Nat) (cands : List (Option Nat)) (i : Nat) :
    tileTarget words cands i =
      min (glareWord words 4)
        (((List.range cands.length).map (halfOf cands i)).foldl max ((cands.getD i none).getD 0)) := by
  have hlist : (cands.zipIdx.map fun (c, k) =>
      if neighbours (i % 16) (i / 16) (k % 16) (k / 16) then c.getD 0 / 2 else 0) =
        (List.range cands.length).map (halfOf cands i) := by
    refine List.ext_getElem (by simp) fun k hk _ => ?_
    simp only [List.length_map, List.length_zipIdx] at hk
    simp [halfOf, List.getD_eq_getElem?_getD, List.getElem?_eq_getElem hk]
  rw [tileTarget, ← hlist]

/-- Tiles that neighbour each other, by their numbers. -/
theorem neighbours_iff (i k : Nat) :
    neighbours (i % 16) (i / 16) (k % 16) (k / 16) = true ↔
      k ≠ i ∧ i % 16 ≤ k % 16 + 1 ∧ k % 16 ≤ i % 16 + 1 ∧ i / 16 ≤ k / 16 + 1 ∧ k / 16 ≤ i / 16 + 1 := by
  simp only [neighbours, Bool.and_eq_true, decide_eq_true_eq, Bool.not_eq_true', Bool.and_eq_false_iff,
    beq_eq_false_iff_ne]
  omega

/-- The night step as one equation (R98). -/
theorem nightStep_eq (words : List Nat) (state : NightState) (counter mean : Nat) :
    nightStep words state counter mean =
      if (if state = .day then decide (mean < glareWord words 5) else decide (glareWord words 6 < mean)) then
        if glareWord words 7 ≤ counter + 1 then (if state = .day then .night else .day, 0) else (state, counter + 1)
      else (state, 0) := by
  cases state <;> simp [nightStep]

/-- The mean of tile i (R97). -/
theorem getD_tileMeans (a : Nat) (tiles : List Tile) (i : Nat) :
    (tileMeans a tiles).getD i 0 = (tiles.getD i ⟨0, 0⟩).luma / a := by
  rw [tileMeans, List.getD_eq_getElem?_getD, List.getD_eq_getElem?_getD, List.getElem?_map]
  cases tiles[i]? with
  | none => exact (Nat.zero_div a).symm
  | some t => rfl

/-- E is pinned at the limit that the mean asked it to pass. -/
theorem pinnedNow_iff (words : List Nat) (e mean : Nat) :
    pinnedNow words e mean = true ↔
      (mean + exposeWord words 1 < exposeWord words 0 ∧ e = exposeWord words 5) ∨
        (exposeWord words 0 + exposeWord words 1 < mean ∧ e = exposeWord words 4) := by
  simp only [pinnedNow, Bool.and_eq_true, Bool.or_eq_true, decide_eq_true_eq, beq_iff_eq]
  omega

/-- The metered tiles by number, with their weights and means. -/
theorem meteredMean_eq (weights means targets : List Nat) :
    let metered := (List.range 192).filter fun i => targets.getD i 0 == 0 && decide (0 < weights.getD i 0)
    let weight := (metered.map fun i => weights.getD i 0).sum
    meteredMean (meteredTiles weights means targets) =
      if weight = 0 then none else some ((metered.map fun i => weights.getD i 0 * means.getD i 0).sum / weight) := by
  dsimp only
  rw [meteredMean, meteredTiles, List.map_map, List.map_map]
  rfl

theorem result_exposure :
    ((u.result p).index, (u.result p).pinned) =
      exposurePart u.exposeWords u.weights (tileMeans (tileArea p.width p.height) p.tiles) (u.result p).target u.index
        u.pinned := by
  rw [result_eq]

theorem exposurePart_none {words weights means targets : List Nat} {index : Option Nat} {pinned : Nat}
    (h : meteredMean (meteredTiles weights means targets) = none) :
    exposurePart words weights means targets index pinned = (index, pinned) := by
  unfold exposurePart
  rw [h]

theorem exposurePart_some {words weights means targets : List Nat} {e mean pinned : Nat}
    (h : meteredMean (meteredTiles weights means targets) = some mean) :
    exposurePart words weights means targets (some e) pinned =
      (some (stepIndex words e mean),
        if pinnedNow words (stepIndex words e mean) mean then satAdd 255 pinned 1 else 0) := by
  unfold exposurePart
  rw [h]

/-- Settles O39, by the night step, the largest of the values of a target, and the metered mean. -/
theorem updateValues : Obligations.UpdateValues := by
  intro u p hlen
  have hmeans : (tileMeans (tileArea p.width p.height) p.tiles).sum =
      ((List.range 192).map fun i => (p.tiles.getD i ⟨0, 0⟩).luma / tileArea p.width p.height).sum :=
    congrArg List.sum (map_eq_map_range hlen _ _)
  have hown : ∀ i, i < 192 → _ := fun i hi => candidatesOf_getD u p i (hlen ▸ hi)
  have hmean := meteredMean_eq u.weights (tileMeans (tileArea p.width p.height) p.tiles) (u.result p).target
  simp only [getD_tileMeans] at hmean
  dsimp only at hmean ⊢
  refine ⟨?_, fun i hi => ?_, fun hzero => ?_, fun e he hweight => ?_, by rw [result_eq]⟩
  · rw [result_night, nightStep_eq, sceneMean, hmeans]
    rfl
  · have hcount : (candidatesOf u p).length = 192 := by
      rw [candidatesOf, candidates, clippedFractions, List.length_map, List.length_map, hlen]
    obtain ⟨hge, hall, hone⟩ := foldl_max ((List.range 192).map (halfOf (candidatesOf u p) i))
      (((candidatesOf u p).getD i none).getD 0)
    have hhalf : ∀ j, j < 192 → j ≠ i ∧ i % 16 ≤ j % 16 + 1 ∧ j % 16 ≤ i % 16 + 1 ∧ i / 16 ≤ j / 16 + 1 ∧
        j / 16 ≤ i / 16 + 1 → halfOf (candidatesOf u p) i j = ((candidatesOf u p).getD j none).getD 0 / 2 :=
      fun j _ hnear => if_pos ((neighbours_iff i j).mpr hnear)
    refine ⟨_, ?_, (hown i hi).symm.le.trans hge, fun j hj => ?_, ?_⟩
    · rw [result_target, targetMap]
      refine (getD_map_range _ _ hi).trans ?_
      rw [tileTarget_eq, hcount]
    · obtain ⟨hj, hnear⟩ := hj
      have hle := hall _ (List.mem_map.mpr ⟨j, List.mem_range.mpr hj, rfl⟩)
      rw [hhalf j hj hnear, hown j hj] at hle
      exact hle
    · rcases hone with h | h
      · exact .inl (h.trans (hown i hi))
      · obtain ⟨j, hj, hval⟩ := List.mem_map.mp h
        have hj := List.mem_range.mp hj
        by_cases hnear : neighbours (i % 16) (i / 16) (j % 16) (j / 16) = true
        · have hnear := (neighbours_iff i j).mp hnear
          refine .inr ⟨j, ⟨hj, hnear⟩, hval.symm.trans ?_⟩
          rw [hhalf j hj hnear, hown j hj]
          rfl
        · have hzero : halfOf (candidatesOf u p) i j = 0 := if_neg hnear
          refine .inl ?_
          rw [← hval, hzero]
          rw [← hval, hzero] at hge
          exact (Nat.le_zero.mp hge).symm.trans (hown i hi)
  · have hpair := (result_exposure u p).trans (exposurePart_none (hmean.trans (if_pos hzero)))
    exact ⟨congrArg Prod.fst hpair, congrArg Prod.snd hpair⟩
  · have hpair := result_exposure u p
    rw [he, exposurePart_some (hmean.trans (if_neg hweight))] at hpair
    refine ⟨congrArg Prod.fst hpair, (congrArg Prod.snd hpair).trans ?_⟩
    simp only [pinnedNow_iff]
    rfl

end

end Sys2Proof.Arithmetic
end

section
/-! The choice of the next cell on a forward lane, and what follows each completion there (R172 to R178). -/

namespace Sys2Proof.Forward

open Sys2Proof Sys2Proof.Machine Sys2Proof.Guarding Sys2Proof.BankWords Sys2Proof.Taking

/-! ## The next frame cell (R172 to R175) -/

section
variable {l : LinkState} {f : EgressFrame} {rest : List EgressFrame}

theorem nextFrameCell_nil (h : l.frames = []) : l.nextFrameCell = l := by
  rw [LinkState.nextFrameCell, h]

/-- The FRAME START of the first frame in progress is next while it waits. -/
theorem nextFrameCell_start {c : FrameStartCell} {starts : List FrameStartCell} (h : l.frames ≠ [])
    (hw : l.waitingStarts = c :: starts) (hle : l.frames.length ≤ l.waitingStarts.length) :
    l.nextFrameCell = l.send .frameStart c.bytes := by
  rw [LinkState.nextFrameCell]
  cases hf : l.frames with
  | nil => exact absurd hf h
  | cons f rest =>
    rw [hf] at hle
    dsimp only
    rw [if_pos hle, hw]

section
variable (h : l.frames = f :: rest) (hw : l.waitingStarts.length < l.frames.length)
include h hw

/-- The first frame in progress, once its FRAME START has been sent. -/
theorem nextFrameCell_begun :
    l.nextFrameCell =
      match f.source with
      | .follow =>
        if f.sent < f.height then
          match l.buffer with
          | [] => l
          | line :: lines =>
            { l with
              lane := .sending .line line.bytes, buffer := lines, frames := { f with sent := f.sent + 1 } :: rest }
        else if f.ended then l.send .frameEnd frameEndCell else l
      | .standalone =>
        if f.ended = false ∧ f.sent < f.height then
          { l with lane := .sending .line f.uniformLine.bytes, frames := { f with sent := f.sent + 1 } :: rest }
        else l.send .frameEnd frameEndCell := by
  rw [LinkState.nextFrameCell, h]
  rw [h] at hw
  dsimp only
  rw [if_neg (Nat.not_le.mpr hw)] <;> rfl

theorem nextFrameCell_line {line : OutLine} {lines : List OutLine} (hsrc : f.source = .follow)
    (hsent : f.sent < f.height) (hb : l.buffer = line :: lines) :
    l.nextFrameCell =
      { l with
        lane := .sending .line line.bytes, buffer := lines, frames := { f with sent := f.sent + 1 } :: rest } := by
  rw [nextFrameCell_begun h hw, hsrc]
  dsimp only
  rw [if_pos hsent, hb]

/-- A follow frame whose next line has not come, or whose end has not been handed over, has no next cell. -/
theorem nextFrameCell_stays (hsrc : f.source = .follow)
    (hnone : (f.sent < f.height ∧ l.buffer = []) ∨ (f.height ≤ f.sent ∧ f.ended = false)) : l.nextFrameCell = l := by
  rw [nextFrameCell_begun h hw, hsrc]
  dsimp only
  rcases hnone with ⟨hsent, hb⟩ | ⟨hsent, hended⟩
  · rw [if_pos hsent, hb]
  · rw [if_neg (Nat.not_lt.mpr hsent), hended, if_neg Bool.false_ne_true]

theorem nextFrameCell_uniform (hsrc : f.source = .standalone) (hended : f.ended = false) (hsent : f.sent < f.height) :
    l.nextFrameCell =
      { l with lane := .sending .line f.uniformLine.bytes, frames := { f with sent := f.sent + 1 } :: rest } := by
  rw [nextFrameCell_begun h hw, hsrc]
  exact if_pos ⟨hended, hsent⟩

theorem nextFrameCell_end (hend : (f.source = .standalone ∧ (f.ended = true ∨ f.height ≤ f.sent)) ∨
    (f.source = .follow ∧ f.ended = true ∧ f.height ≤ f.sent)) :
    l.nextFrameCell = l.send .frameEnd frameEndCell := by
  rw [nextFrameCell_begun h hw]
  rcases hend with ⟨hsrc, hend⟩ | ⟨hsrc, hended, hsent⟩ <;> rw [hsrc] <;> dsimp only
  · refine if_neg fun hn => ?_
    rcases hend with h | h
    · exact Bool.false_ne_true (hn.1.symm.trans h)
    · exact absurd hn.2 (Nat.not_lt.mpr h)
  · rw [if_neg (Nat.not_lt.mpr hsent), if_pos hended]

/-- On an idle lane a follow frame with lines to come sends the head of the egress line buffer, if there is one. -/
theorem nextFrameCell_followLine (hsrc : f.source = .follow) (hsent : f.sent < f.height) :
    (∀ line lines, l.buffer = line :: lines → l.idle.nextFrameCell =
      { l with
        lane := .sending .line line.bytes, buffer := lines, frames := { f with sent := f.sent + 1 } :: rest }) ∧
    (l.buffer = [] → l.idle.nextFrameCell = l.idle) :=
  ⟨fun _ _ hb => nextFrameCell_line (l := l.idle) h hw hsrc hsent hb,
    fun hb => nextFrameCell_stays (l := l.idle) h hw hsrc (.inl ⟨hsent, hb⟩)⟩

end

/-- A choice of a frame cell changes the lane, the buffer and the first frame in progress, and nothing else. -/
theorem nextFrameCell_frame (l : LinkState) :
    l.nextFrameCell =
      { l with
        lane := l.nextFrameCell.lane, frames := l.nextFrameCell.frames, buffer := l.nextFrameCell.buffer } ∧
      l.nextFrameCell.frames.length = l.frames.length := by
  unfold LinkState.nextFrameCell
  repeat' split
  all_goals exact ⟨rfl, by simp only [LinkState.send, *, List.length_cons]⟩

end

/-! ## The arbiter (R177) -/

section
variable {s : State} {l : LinkState}

theorem arbiter_reportA (h : l.reportA = true) :
    arbiter s l = some { l with lane := .sending .report (reportCell s .a), reportA := false } := if_pos h

theorem arbiter_reportB (ha : l.reportA = false) (hb : l.reportB = true) :
    arbiter s l = some { l with lane := .sending .report (reportCell s .b), reportB := false } := by
  rw [arbiter, if_neg (Bool.eq_false_iff.mp ha), if_pos hb]

section
variable (ha : l.reportA = false) (hb : l.reportB = false)
include ha hb

theorem arbiter_response {r : Response} {rest : List ResponseSlot} (hr : l.responses = .ready r :: rest) :
    arbiter s l = some { l with lane := .sending .response r.bytes, responses := rest } := by
  rw [arbiter, if_neg (Bool.eq_false_iff.mp ha), if_neg (Bool.eq_false_iff.mp hb), LinkState.sendResponse, hr]

theorem arbiter_none (hr : ∀ r rest, l.responses ≠ .ready r :: rest) : arbiter s l = none := by
  rw [arbiter, if_neg (Bool.eq_false_iff.mp ha), if_neg (Bool.eq_false_iff.mp hb), LinkState.sendResponse]
  split
  · rename_i r rest h
    exact absurd h (hr r rest)
  · rfl

end

theorem afterLine_some {m : LinkState} (h : arbiter s l = some m) : afterLine s l = m := by rw [afterLine, h]

theorem afterLine_none (h : arbiter s l = none) : afterLine s l = l.nextFrameCell := by rw [afterLine, h]

/-! ## The frame-end run (R176) -/

theorem chooseCell_closed (h : l.run = none) : chooseCell s l = l.nextFrameCell := by rw [chooseCell, h]

section
variable {n : Nat} (h : l.run = some n)
include h

theorem chooseCell_closes (hend : 8 ≤ n ∨ l.waitingStarts ≠ []) :
    chooseCell s l = { l with run := none }.nextFrameCell := by
  rw [chooseCell, h]
  exact if_pos hend.symm

theorem chooseCell_run (hn : n < 8) (hw : l.waitingStarts = []) :
    (∀ m, arbiter s l = some m → chooseCell s l = { m with run := some (n + 1) }) ∧
      (arbiter s l = none → chooseCell s l = { l with run := none }.nextFrameCell) := by
  have hopen : ¬ (l.waitingStarts ≠ [] ∨ Config.runCells ≤ n) :=
    fun hc => hc.elim (fun h => h hw) (Nat.not_le.mpr hn)
  rw [chooseCell, h]
  dsimp only
  rw [if_neg hopen]
  exact ⟨fun m hm => by rw [hm], fun hm => by rw [hm]⟩

end

/-- No choice changes the FRAME STARTs that wait, or how many frames are in progress. -/
theorem chooseCell_waiting (s : State) (l : LinkState) :
    (chooseCell s l).waitingStarts = l.waitingStarts ∧ (chooseCell s l).frames.length = l.frames.length := by
  have hnext : ∀ l : LinkState, l.nextFrameCell.waitingStarts = l.waitingStarts ∧
      l.nextFrameCell.frames.length = l.frames.length := fun l =>
    ⟨by rw [(nextFrameCell_frame l).1], (nextFrameCell_frame l).2⟩
  have harb : ∀ m : LinkState, arbiter s l = some m → m.waitingStarts = l.waitingStarts ∧ m.frames = l.frames := by
    intro m hm
    unfold arbiter LinkState.sendResponse at hm
    split at hm
    · cases hm; exact ⟨rfl, rfl⟩
    · split at hm
      · cases hm; exact ⟨rfl, rfl⟩
      · split at hm
        · cases hm; exact ⟨rfl, rfl⟩
        · cases hm
  unfold chooseCell
  split
  · exact hnext l
  · split
    · exact hnext _
    · split
      · rename_i m hm
        obtain ⟨hw, hf⟩ := harb m hm
        exact ⟨hw, congrArg List.length hf⟩
      · exact hnext _

/-! ## The transmitter chooses (R172) -/

/-- A report is built from the sides and the pins, and reads no link. -/
theorem reportCell_onLink (s : State) (x y : Side) (h : LinkState → LinkState) :
    reportCell (s.onLink x h) y = reportCell s y := by
  unfold reportCell
  rw [onLink_side, onLink_fault, onLink_warn, onLink_notice]

theorem chooseCell_onLink (s : State) (x : Side) (h : LinkState → LinkState) (l : LinkState) :
    chooseCell (s.onLink x h) l = chooseCell s l := by
  have harb : arbiter (s.onLink x h) l = arbiter s l := by
    rw [arbiter, arbiter, reportCell_onLink, reportCell_onLink]
  rw [chooseCell, chooseCell, harb]

/-- On a lane that a change leaves idle the transmitter chooses. -/
theorem kick_onLink {x : Side} {h : LinkState → LinkState} (hl : (h (s.link x)).lane = .idle) :
    kick (s.onLink x h) x = s.onLink x fun l => chooseCell s (h l) := by
  rw [kick, if_pos (by rw [onLink_link_same]; exact hl), onLink_onLink]
  exact DisplayLinks.onLink_congr (chooseCell_onLink s x h _)

end

/-! ## Completions (R172 to R176) -/

section
variable {s : State} {x : Side} {bytes : List Byte}

theorem isSending_of_lane {l : LinkState} {k : EgressKind} (h : l.lane = .sending k bytes) : l.isSending k = true := by
  rw [LinkState.isSending, h]
  exact decide_eq_true rfl

theorem exec_egressLineCompletion (hfree : s.resetHeld = false) (hl : (s.link x).lane = .sending .line bytes) :
    exec (.egressLineCompletion x) s = .next (s.onLink x fun l => afterLine s l.idle) := by
  have hexec : exec (.egressLineCompletion x) s = execEgressLineCompletion x s := rfl
  rw [hexec, execEgressLineCompletion, exec_unheld hfree, if_pos (isSending_of_lane hl), completeLine]

theorem exec_egressFrameStartCompletion (hfree : s.resetHeld = false)
    (hl : (s.link x).lane = .sending .frameStart bytes) :
    exec (.egressFrameStartCompletion x) s =
      .next (s.onLink x fun l => chooseCell s { l.idle with waitingStarts := l.waitingStarts.drop 1 }) := by
  have hexec : exec (.egressFrameStartCompletion x) s = execEgressFrameStartCompletion x s := rfl
  rw [hexec, execEgressFrameStartCompletion, exec_unheld hfree, if_pos (isSending_of_lane hl), completeFrameStart]
  exact congrArg _ (kick_onLink rfl)

theorem exec_insertedCellCompletion (hfree : s.resetHeld = false)
    (hl : (s.link x).lane = .sending .report bytes ∨ (s.link x).lane = .sending .response bytes) :
    exec (.insertedCellCompletion x) s = .next (s.onLink x fun l => chooseCell s l.idle) := by
  have hexec : exec (.insertedCellCompletion x) s = execInsertedCellCompletion x s := rfl
  have hsends : ((s.link x).isSending .report || (s.link x).isSending .response) = true := by
    rcases hl with h | h <;> rw [isSending_of_lane h]
    · exact Bool.true_or _
    · exact Bool.or_true _
  rw [hexec, execInsertedCellCompletion, exec_unheld hfree, if_pos hsends, completeInserted]
  exact congrArg _ (kick_onLink rfl)

end

/-- Settles O44, by the arbiter's choices and those of the next frame cell. -/
theorem egressLineCompletes : Obligations.EgressLineCompletes := by
  intro x s bytes hfree hl
  rw [exec_egressLineCompletion hfree hl]
  refine ⟨fun ha => ?_, fun ha hb => ?_, fun r rest ha hb hr => ?_, fun ha hb hr => ?_⟩
  · exact congrArg _ (DisplayLinks.onLink_congr (afterLine_some (arbiter_reportA (l := (s.link x).idle) ha)))
  · exact congrArg _ (DisplayLinks.onLink_congr (afterLine_some (arbiter_reportB (l := (s.link x).idle) ha hb)))
  · exact congrArg _ (DisplayLinks.onLink_congr (afterLine_some (arbiter_response (l := (s.link x).idle) ha hb hr)))
  · have hnext : ∀ {m : LinkState}, (s.link x).idle.nextFrameCell = m → ∀ k : LinkState → LinkState,
        k (s.link x) = m → Host.Outcome.next (s.onLink x fun l => afterLine s l.idle) =
          (.next (s.onLink x k) : Host.Outcome State Fault Refusal) := fun hm k hk =>
      congrArg _ (DisplayLinks.onLink_congr
        ((afterLine_none (arbiter_none (l := (s.link x).idle) ha hb hr)).trans (hm.trans hk.symm)))
    refine ⟨hnext rfl _ rfl, fun hf => hnext (nextFrameCell_nil (l := (s.link x).idle) hf) _ rfl,
      fun c starts hf hw hle => hnext (nextFrameCell_start (l := (s.link x).idle) hf hw hle) _ rfl,
      fun f rest hf hw => ⟨fun line lines hsrc hsent hb => ?_, fun hsrc hnone => ?_, fun hsrc hended hsent => ?_,
        fun hend => ?_⟩⟩
    · exact hnext (nextFrameCell_line (l := (s.link x).idle) hf hw hsrc hsent hb) _ rfl
    · exact hnext (nextFrameCell_stays (l := (s.link x).idle) hf hw hsrc hnone) _ rfl
    · exact hnext (nextFrameCell_uniform (l := (s.link x).idle) hf hw hsrc hended hsent) _ rfl
    · exact hnext (nextFrameCell_end (l := (s.link x).idle) hf hw hend) _ rfl

/-- Settles O46, by the choices on the lane that the completion leaves idle. -/
theorem startAndInsertedComplete : Obligations.StartAndInsertedComplete := by
  intro x s bytes hfree
  have hfollow : ∀ (l : LinkState) (t : State), t = s.onLink x (fun _ => l.idle.nextFrameCell) →
      ∀ f rest, l.frames = f :: rest → l.waitingStarts.length < l.frames.length → f.source = .follow →
        f.sent < f.height →
        (∀ line lines, l.buffer = line :: lines →
          t = s.onLink x fun _ =>
            { l with
              lane := .sending .line line.bytes, buffer := lines, frames := { f with sent := f.sent + 1 } :: rest }) ∧
        (l.buffer = [] → t = s.onLink x fun _ => { l with lane := .idle }) := by
    intro l t ht f rest hf hw hsrc hsent
    obtain ⟨hline, hempty⟩ := nextFrameCell_followLine hf hw hsrc hsent
    exact ⟨fun line lines hb => ht.trans (by rw [hline line lines hb]),
      fun hb => ht.trans (by rw [hempty hb]; rfl)⟩
  refine ⟨fun hl => ⟨_, exec_egressFrameStartCompletion hfree hl, ?_, fun hrun => ?_, ?_, ?_, ?_⟩,
    fun hl => ⟨_, exec_insertedCellCompletion hfree hl, ?_, fun hrun => ?_, fun n hrun => ⟨fun hend => ?_, ?_, ?_⟩⟩⟩
  · exact onLink_beside s x (chooseCell_beside s _)
  · exact hfollow _ _ (DisplayLinks.onLink_congr (chooseCell_closed (l := { (s.link x).idle with
      waitingStarts := (s.link x).waitingStarts.drop 1 }) hrun))
  · rw [onLink_link_same, (chooseCell_waiting _ _).1]
  · intro c w h colour hstarts hrun hpos hf
    have hnext := nextFrameCell_uniform (l := { (s.link x).idle with
      waitingStarts := (s.link x).waitingStarts.drop 1 }) hf (by
        show ((s.link x).waitingStarts.drop 1).length < (s.link x).frames.length
        rw [hstarts, hf]
        exact Nat.zero_lt_one)
      rfl rfl hpos
    have hchoice := chooseCell_closed (s := s) (l := { (s.link x).idle with
      waitingStarts := (s.link x).waitingStarts.drop 1 }) hrun
    rw [onLink_link_same, hchoice, hnext]
    exact ⟨rfl, rfl⟩
  · intro f rest hrun hf hw hsrc hended
    have hnext := nextFrameCell_end (l := { (s.link x).idle with
      waitingStarts := (s.link x).waitingStarts.drop 1 }) hf (by
        simp only [LinkState.idle, List.length_drop]
        rw [hf, List.length_cons] at hw ⊢
        omega) (.inl ⟨hsrc, .inl hended⟩)
    have hchoice := chooseCell_closed (s := s) (l := { (s.link x).idle with
      waitingStarts := (s.link x).waitingStarts.drop 1 }) hrun
    rw [onLink_link_same, hchoice, hnext]
    rfl
  · exact onLink_beside s x (chooseCell_beside s _)
  · have ht : s.onLink x (fun l => chooseCell s l.idle) = s.onLink x fun _ => (s.link x).idle.nextFrameCell :=
      DisplayLinks.onLink_congr (chooseCell_closed (l := (s.link x).idle) hrun)
    exact ⟨ht.trans (DisplayLinks.onLink_congr rfl), hfollow _ _ ht⟩
  · have ht : s.onLink x (fun l => chooseCell s l.idle) =
        s.onLink x fun _ => LinkState.nextFrameCell { (s.link x).idle with run := none } :=
      DisplayLinks.onLink_congr (chooseCell_closes (l := (s.link x).idle) hrun hend)
    exact ⟨ht.trans (DisplayLinks.onLink_congr rfl), hfollow { s.link x with run := none } _ ht⟩
  · intro c rest hw hle hf
    have hchoice := chooseCell_closes (s := s) (l := (s.link x).idle) hrun (.inr (by
      show (s.link x).waitingStarts ≠ []
      rw [hw]
      exact List.cons_ne_nil _ _))
    have hnext := nextFrameCell_start (l := { (s.link x).idle with run := none }) hf hw (by
      show (s.link x).frames.length ≤ (s.link x).waitingStarts.length
      rw [hw]
      exact hle)
    rw [onLink_link_same, hchoice, hnext]
    exact ⟨rfl, rfl⟩
  · intro hn hw
    obtain ⟨hcell, hnone⟩ := chooseCell_run (s := s) (l := (s.link x).idle) hrun hn hw
    rw [onLink_link_same]
    refine ⟨fun ha => ?_, fun ha hb => ?_, fun r rest ha hb hr => ?_, fun ha hb hr => ?_⟩
    · rw [hcell _ (arbiter_reportA (l := (s.link x).idle) ha)]
      exact ⟨rfl, rfl, rfl⟩
    · rw [hcell _ (arbiter_reportB (l := (s.link x).idle) ha hb)]
      exact ⟨rfl, rfl, rfl⟩
    · rw [hcell _ (arbiter_response (l := (s.link x).idle) ha hb hr)]
      exact ⟨rfl, rfl, rfl⟩
    · have hchoice := hnone (arbiter_none (l := (s.link x).idle) ha hb hr)
      have ht : s.onLink x (fun l => chooseCell s l.idle) =
          s.onLink x fun _ => LinkState.nextFrameCell { (s.link x).idle with run := none } :=
        DisplayLinks.onLink_congr hchoice
      exact ⟨ht.trans (DisplayLinks.onLink_congr rfl), hfollow { s.link x with run := none } _ ht⟩

/-! ## A FRAME END completes (R52, R175 to R178) -/

/-- No evaluation clears a report-pending flag. -/
theorem settle_keeps_report (s : State) (x y z : Side) (before : Conditions) (h : (s.link z).report y = true) :
    ((settle s x before).link z).report y = true := by
  have hcomm : Unread x (State.onLink · z (·.setReport y true)) := unread_onLink x z fun l => by
    cases x <;> cases y <;> rfl
  have hsame : s.onLink z (·.setReport y true) = s := by
    have hid : s.onLink z id = s := by cases z <;> rfl
    refine (DisplayLinks.onLink_congr ?_).trans hid
    show (s.link z).setReport y true = s.link z
    cases y
    · have ha : (s.link z).reportA = true := h
      rw [LinkState.setReport, ← ha]
    · have hb : (s.link z).reportB = true := h
      rw [LinkState.setReport, ← hb]
  have hset := hcomm.settle s before
  rw [hsame] at hset
  rw [← hset, onLink_link_same, report_setReport_same]

section
variable {s : State} {x : Side} {bytes : List Byte}

theorem exec_egressFrameEndCompletion (hfree : s.resetHeld = false)
    (hl : (s.link x).lane = .sending .frameEnd bytes) :
    exec (.egressFrameEndCompletion x) s = .next (completeFrameEnd s x) := by
  have hexec : exec (.egressFrameEndCompletion x) s = execEgressFrameEndCompletion x s := rfl
  rw [hexec, execEgressFrameEndCompletion, exec_unheld hfree, if_pos (isSending_of_lane hl)]

/-- The part after the scrubber's batch, before the frame-end run opens. -/
def scrubbed (s : State) (x : Side) : State :=
  scrub (s.onLink x fun l => { l.idle with frames := l.frames.drop 1 }) x

theorem scrubbed_eq (s : State) (x : Side) :
    scrubbed s x =
      settle ((s.onLink x fun l => { l.idle with frames := l.frames.drop 1 }).onSide x SideState.scrubBatch) x
        (s.side x).cond := by
  rw [scrubbed, scrub, onLink_side]

theorem scrubbed_link (s : State) (x : Side) :
    ∃ a b, (scrubbed s x).link x =
      { s.link x with lane := .idle, frames := (s.link x).frames.drop 1, reportA := a, reportB := b } ∧
      ((s.link x).reportA = true → a = true) := by
  have hbeside := settle_beside
    ((s.onLink x fun l => { l.idle with frames := l.frames.drop 1 }).onSide x SideState.scrubBatch) x (s.side x).cond
  rw [← scrubbed_eq] at hbeside
  obtain ⟨a, b, h⟩ := Invariants.beside_link hbeside x
  rw [onSide_link, onLink_link_same] at h
  refine ⟨a, b, h, fun ha => ?_⟩
  have hkeep := settle_keeps_report
    ((s.onLink x fun l => { l.idle with frames := l.frames.drop 1 }).onSide x SideState.scrubBatch) x .a x
    (s.side x).cond (by
      rw [onSide_link, onLink_link_same]
      exact ha)
  rw [← scrubbed_eq, h] at hkeep
  exact hkeep

theorem scrubbed_side (s : State) (x : Side) :
    ∃ groups guard, (scrubbed s x).side x = { (s.side x).scrubBatch with groups := groups, guard := guard } := by
  obtain ⟨groups, guard, h⟩ := settle_side (s.onLink x fun l => { l.idle with frames := l.frames.drop 1 }) x
    SideState.scrubBatch (s.side x).cond
  rw [← scrubbed_eq, onLink_side] at h
  exact ⟨groups, guard, h⟩

/-- A batch that leaves the conditions changes nothing beside the side's store. -/
theorem scrubbed_of_cond (h : (s.side x).scrubBatch.cond = (s.side x).cond) :
    scrubbed s x = (s.onLink x fun l => { l.idle with frames := l.frames.drop 1 }).onSide x SideState.scrubBatch := by
  rw [scrubbed_eq, Records.settle_of_cond]
  rw [onSide_side_same, onLink_side, h]

/-- The words of a batch by what they are (R52). -/
theorem scrubWords_eq (cursor : Nat) :
    scrubWords cursor = (List.range 706).filter fun w => decide ((w + 706 - cursor) % 706 < 128) := rfl

/-- The batch as one equation. -/
theorem scrubBatch_of_active {d : SideState} {i : BankId} (h : d.store.active = some i) :
    d.scrubBatch =
      { d with
        store :=
          { d.store with
            parity := d.store.parity.found i (d.store.bank i) (scrubWords d.store.scrub)
            scrub := (d.store.scrub + 128) % 706 }
        cond :=
          { d.cond with
            tableParity := d.cond.tableParity ||
              (scrubWords d.store.scrub).any fun w => ((d.store.bank i).read w).failed } } := by
  have hparity := findFailed_parity h (scrubWords d.store.scrub)
  have hfound := findFailed_found h (scrubWords d.store.scrub)
  rw [SideState.scrubBatch, h]
  dsimp only
  rw [findFailed_frame, hparity, hfound]
  rfl

theorem scrubBatch_of_none {d : SideState} (h : d.store.active = none) : d.scrubBatch = d := by
  rw [SideState.scrubBatch, h]

/-- The batch leaves the banks, and what makes a standalone frame start due. -/
theorem scrubBatch_keeps (d : SideState) :
    d.scrubBatch.store.bank0 = d.store.bank0 ∧ d.scrubBatch.store.bank1 = d.store.bank1 ∧
      d.scrubBatch.standaloneDue = d.standaloneDue ∧ d.scrubBatch.source = d.source := by
  cases h : d.store.active with
  | none =>
    rw [scrubBatch_of_none h]
    exact ⟨rfl, rfl, rfl, rfl⟩
  | some i =>
    rw [scrubBatch_of_active h]
    exact ⟨rfl, rfl, rfl, rfl⟩

/-- A standalone frame start takes place as the FRAME END completes. -/
theorem standaloneEnabled_scrubbed (s : State) (x : Side) :
    standaloneEnabled ((scrubbed s x).onLink x fun l => { l with run := some 0 }) x = true ↔
      (s.side x).standaloneDue = true ∧ (s.side x).source = .standalone ∧ (s.link x).frames.drop 1 = [] := by
  obtain ⟨groups, guard, hside⟩ := scrubbed_side s x
  obtain ⟨a, b, hlink, -⟩ := scrubbed_link s x
  obtain ⟨-, -, hdue, hsource⟩ := scrubBatch_keeps (s.side x)
  rw [standaloneEnabled, onLink_side, onLink_link_same, hside, hlink]
  simp only [hdue, hsource, Bool.and_eq_true, decide_eq_true_eq, List.isEmpty_iff, and_assoc]

/-- With no standalone frame start that takes place now, the transmitter chooses in the run. -/
theorem completeFrameEnd_chooses (h : ¬ ((s.side x).standaloneDue = true ∧ (s.side x).source = .standalone ∧
    (s.link x).frames.drop 1 = [])) :
    completeFrameEnd s x = (scrubbed s x).onLink x fun l => chooseCell (scrubbed s x) { l with run := some 0 } := by
  have hidle : ((fun l : LinkState => { l with run := some 0 }) ((scrubbed s x).link x)).lane = .idle := by
    obtain ⟨a, b, hlink, -⟩ := scrubbed_link s x
    rw [hlink]
  exact (if_neg fun hn => h ((standaloneEnabled_scrubbed s x).mp hn)).trans (kick_onLink (s := scrubbed s x) hidle)

theorem completeFrameEnd_starts (h : (s.side x).standaloneDue = true ∧ (s.side x).source = .standalone ∧
    (s.link x).frames.drop 1 = []) :
    completeFrameEnd s x = (scrubbed s x).onLink x fun l => { l with run := some 0 } :=
  if_pos ((standaloneEnabled_scrubbed s x).mpr h)

/-- What follows the scrubber's batch leaves the sides. -/
theorem completeFrameEnd_side (s : State) (x y : Side) :
    (completeFrameEnd s x).side y = (scrubbed s x).side y := by
  by_cases h : (s.side x).standaloneDue = true ∧ (s.side x).source = .standalone ∧ (s.link x).frames.drop 1 = []
  · rw [completeFrameEnd_starts h, onLink_side]
  · rw [completeFrameEnd_chooses h, onLink_side]

end

/-- Settles O45, by the scrubber's batch and the choice in the run that opens. -/
theorem egressFrameEndCompletes : Obligations.EgressFrameEndCompletes := by
  intro x s bytes hfree hl
  refine ⟨_, exec_egressFrameEndCompletion hfree hl, ?_⟩
  obtain ⟨groups, guard, hside⟩ := scrubbed_side s x
  obtain ⟨a, b, hlink, hreport⟩ := scrubbed_link s x
  obtain ⟨hbank0, hbank1, -, -⟩ := scrubBatch_keeps (s.side x)
  dsimp only
  rw [completeFrameEnd_side, hside]
  refine ⟨?_, hbank0, hbank1, fun i hi => ?_, fun hnone => ?_, fun c f hw hf => ?_, fun hw hnot ha => ?_,
    fun hw hnot ha hb hf hr hcond => ?_, fun hnow => ?_, fun y hy => ?_⟩
  · have hdrop : ((s.link x).frames.drop 1).length = (s.link x).frames.length - 1 := List.length_drop
    by_cases hnow : (s.side x).standaloneDue = true ∧ (s.side x).source = .standalone ∧
        (s.link x).frames.drop 1 = []
    · rw [completeFrameEnd_starts hnow, onLink_link_same, hlink, ← hdrop]
    · rw [completeFrameEnd_chooses hnow, onLink_link_same, (chooseCell_waiting _ _).2, hlink, ← hdrop]
  · rw [scrubBatch_of_active hi, ← scrubWords_eq]
    refine ⟨rfl, rfl, ?_⟩
    dsimp only
  · have hkeep := scrubBatch_of_none hnone
    have hsame := scrubbed_of_cond (s := s) (x := x) (by rw [hkeep])
    rw [← hside, hsame, onSide_side_same, onLink_side, hkeep]
  · have hnot : ¬ ((s.side x).standaloneDue = true ∧ (s.side x).source = .standalone ∧
        (s.link x).frames.drop 1 = []) := fun hn => by
      rw [hf] at hn
      exact List.cons_ne_nil _ _ hn.2.2
    have hstarts : ((scrubbed s x).link x).waitingStarts = [c] := by rw [hlink]; exact hw
    have hframes : ((scrubbed s x).link x).frames = [f] := by rw [hlink]; exact hf
    have hchoice := chooseCell_closes (s := scrubbed s x)
      (l := { (scrubbed s x).link x with run := some 0 }) rfl (.inr (by
        show ((scrubbed s x).link x).waitingStarts ≠ []
        rw [hstarts]
        exact List.cons_ne_nil _ _))
    have hnext := nextFrameCell_start (l := { (scrubbed s x).link x with run := none })
      (by
        show ((scrubbed s x).link x).frames ≠ []
        rw [hframes]
        exact List.cons_ne_nil _ _) hstarts
      (by
        show ((scrubbed s x).link x).frames.length ≤ ((scrubbed s x).link x).waitingStarts.length
        rw [hstarts, hframes]
        exact Nat.le_refl 1)
    rw [completeFrameEnd_chooses hnot, onLink_link_same, hchoice, hnext]
    exact ⟨rfl, rfl⟩
  · have hchoice := (chooseCell_run (s := scrubbed s x) (l := { (scrubbed s x).link x with run := some 0 }) rfl
      (by omega) (by rw [hlink]; exact hw)).1 _ (arbiter_reportA (by rw [hlink]; exact hreport ha))
    rw [completeFrameEnd_chooses hnot, onLink_link_same, hchoice, reportCell_onLink]
    exact ⟨rfl, rfl, rfl⟩
  · have hsame := scrubbed_of_cond (s := s) (x := x) hcond
    have hlink' : (scrubbed s x).link x = { (s.link x).idle with frames := (s.link x).frames.drop 1 } := by
      rw [hsame, onSide_link, onLink_link_same]
    have hchoice := (chooseCell_run (s := scrubbed s x) (l := { (scrubbed s x).link x with run := some 0 }) rfl
      (by omega) (by rw [hlink']; exact hw)).2
        (arbiter_none (by rw [hlink']; exact ha) (by rw [hlink']; exact hb) (by rw [hlink']; exact hr))
    rw [completeFrameEnd_chooses hnot, onLink_link_same, hchoice, hlink', nextFrameCell_nil hf]
    exact ⟨rfl, rfl⟩
  · rw [completeFrameEnd_starts hnow, onLink_link_same, hlink]
    exact ⟨rfl, rfl⟩
  · rw [completeFrameEnd_side, scrubbed, scrub, settle_side_other _ _ hy, onLink_side]

end Sys2Proof.Forward
end

section
/-! What a READ answers (R187 to R190), and the settings as they read after a WRITE SETTINGS (R33, R191 to R194). -/

namespace Sys2Proof.Reading

open Sys2Proof Sys2Proof.Machine Sys2Proof.Requests Sys2Proof.ExposureControl Sys2Proof.SettingsStore

/-! ## READ (R188 to R190) -/

section
variable {s : State} {x y : Side} {r : Request}

/-- Taking a request leaves every readable object. -/
theorem objectItem_takeRequest (s : State) (x y : Side) (o : ObjectId) (i : Nat) :
    objectItem (takeRequest s x) y o i = objectItem s y o i := by
  have hdisplay : ((takeRequest s x).link y).display = (s.link y).display :=
    Invariants.onLink_forall (P := fun l m => m.display = l.display) (fun _ => rfl) rfl y
  cases o
  case display => rw [objectItem, hdisplay]; rfl
  case settings =>
    show [settingItem (takeRequest s x) y i] = [settingItem s y i]
    rw [settingItem, settingItem, takeRequest_side, takeRequest, onLink_warnPulseWidth]
  case partStatus =>
    show [partItem (takeRequest s x) i] = [partItem s i]
    unfold partItem takeRequest
    rw [onLink_notice, onLink_fault, onLink_warn, onLink_timeBase]
  all_goals
    unfold objectItem
    rw [takeRequest_side]

theorem readInRange_iff {o : ObjectId} : r.readInRange o = true ↔
    ¬ (r.count.toNat = 0 ∨ 8 < r.count.toNat * o.size ∨ o.items < r.index.toNat + r.count.toNat) := by
  simp only [Request.readInRange, Bool.and_eq_true, decide_eq_true_eq]
  omega

/-- The side that a READ of an object kept per side, or of PART STATUS, reads. -/
theorem readSide_eq {o : ObjectId} (h : if o = .partStatus then y = .a else r.names = some y) :
    r.readSide o = some y := by
  rw [Request.readSide]
  split
  · rename_i ho
    rw [if_pos ho] at h
    rw [h]
  · rename_i ho
    rwa [if_neg ho] at h

theorem objectOf_of_gt {id : Nat} (h : 8 < id) : objectOf id = none := by
  unfold objectOf
  split <;> first | rfl | omega

theorem objectOf_of_lt {id : Nat} (h : id < 8) : ∃ o, objectOf id = some o ∧ o ≠ .partStatus := by
  match id, h with
  | 0, _ | 1, _ | 2, _ | 3, _ | 4, _ | 5, _ | 6, _ | 7, _ => exact ⟨_, rfl, ObjectId.noConfusion⟩

end

/-- Settles O50, by the order of its refusals. -/
theorem readAnswered : Obligations.ReadAnswered := by
  intro x r s htake hk
  rw [exec_request (i := .read x) (fun _ => rfl) htake (requestKind_of_kind hk .read rfl)]
  refine ⟨fun hid => ?_, fun hid hn => ?_, fun o y ho hy => ?_⟩
  · rw [doRead, objectOf_of_gt hid, ← refuse_takeRequest]
  · obtain ⟨o, ho, hpart⟩ := objectOf_of_lt hid
    have hside : r.readSide o = none := by rw [Request.readSide, if_neg hpart, hn]
    simp only [doRead, ho, hside, refuse_takeRequest]
  · simp only [doRead, ho, readSide_eq hy]
    by_cases hbad : r.count.toNat = 0 ∨ 8 < r.count.toNat * o.size ∨ o.items < r.index.toNat + r.count.toNat
    · rw [if_neg fun h => readInRange_iff.mp h hbad, if_pos hbad, refuse_takeRequest]
    · have hwords : objectItems (takeRequest s x) y o r.index.toNat r.count.toNat =
          (List.range r.count.toNat).flatMap fun k => objectItem s y o (r.index.toNat + k) := by
        unfold objectItems
        simp only [objectItem_takeRequest]
      rw [if_pos (readInRange_iff.mpr hbad), if_neg hbad, hwords]
      split
      · exact congrArg _ (respond_onSide_takeRequest _ _)
      · exact congrArg _ (respond_takeRequest _)

/-! ## A setting as it reads after a write (R192, R193) -/

theorem toRange_eq {lo hi : Nat} (h : lo ≤ hi) (v : Word) : toRange lo hi v = max lo (min hi v.toNat) := by
  rw [toRange, clampInto]
  split
  · omega
  · split <;> omega

theorem setWidth_low (v : Word) : (v.extractLsb' 0 8).setWidth 32 = v &&& 0xFF := by
  ext i hi
  simp only [BitVec.getElem_setWidth, BitVec.getElem_and]
  interval_cases i <;> simp

theorem ofNat_low (v : Word) : BitVec.ofNat 32 (v.extractLsb' 0 16).toNat = v &&& 0xFFFF := by
  rw [BitVec.ofNat_toNat]
  ext i hi
  simp only [BitVec.getElem_setWidth, BitVec.getElem_and]
  interval_cases i <;> simp

/-- Settings 0 to 19: the one written reads as R193 converts it. -/
theorem value_write_same (k : Settings) {n : Nat} (h : n < 20) (v : Word) :
    (k.write n v).value n = convertedSetting n v := by
  have hchoice : ∀ {α : Type} [DecidableEq α] (a b : α), a ≠ b →
      (if (if v = 0 then a else b) = a then (0 : Word) else 1) = if v = 0 then 0 else 1 := fun a b hab => by
    by_cases hv : v = 0
    · rw [if_pos hv, if_pos rfl, if_pos hv]
    · rw [if_neg hv, if_neg hab.symm, if_neg hv]
  match n, h with
  | 3, _ =>
    show BitVec.ofNat 32 (toDivider v) = if v.toNat ≤ 2 then 1 else if v.toNat ≤ 9 then 4 else 16
    unfold toDivider
    split
    · rfl
    · split <;> rfl
  | 7, _ => exact hchoice LinePolicy.conceal .accept LinePolicy.noConfusion
  | 16, _ => exact hchoice StoreMode.checked .always StoreMode.noConfusion
  | 17, _ => exact hchoice RestoreMode.auto .manual RestoreMode.noConfusion
  | 10, _ => rfl
  | 14, _ | 15, _ => exact setWidth_low v
  | 2, _ | 5, _ | 6, _ | 18, _ => exact congrArg (BitVec.ofNat 32) (toRange_eq (Nat.zero_le _) v)
  | 0, _ | 1, _ | 4, _ | 8, _ | 9, _ | 11, _ | 12, _ | 13, _ | 19, _ =>
    refine congrArg (BitVec.ofNat 32) (toRange_eq ?_ v)
    decide
  | n + 20, h => exact absurd h (by omega)

/-- Settings 0 to 19: any other one reads as before. -/
theorem value_write_other (k : Settings) {n m : Nat} (hn : n < 20) (hm : m < 20) (h : m ≠ n) (v : Word) :
    (k.write n v).value m = k.value m := by
  interval_cases n <;> interval_cases m <;> first | rfl | exact absurd rfl h

/-- One setting of a group after a write of it or of another. -/
theorem setting_write (g : Group) {a b : Nat} (ha : a < 3) (hb : b < 3) (v : Word) :
    (b ≠ a → (g.write a v).setting b = g.setting b) ∧
      ((g.write a v).setting a = if a = 2 then min 3 v.toNat else (v.extractLsb' 0 16).toNat) := by
  match a, b, ha, hb with
  | 0, 0, _, _ | 1, 1, _, _ | 2, 2, _, _ => exact ⟨fun h => absurd rfl h, rfl⟩
  | 0, 1, _, _ | 0, 2, _, _ | 1, 0, _, _ | 1, 2, _, _ | 2, 0, _, _ | 2, 1, _, _ => exact ⟨fun _ => rfl, rfl⟩

theorem nth_onNth (g : Groups) (f : Group → Group) {i j : Nat} (hi : i < 4) (hj : j < 4) :
    (g.onNth i f).nth j = if j = i then f (g.nth j) else g.nth j := by
  interval_cases i <;> interval_cases j <;> rfl

/-- Settings 20 to 31 as R193 converts them. -/
theorem convertedSetting_group {n : Nat} (h20 : 20 ≤ n) (h32 : n < 32) (v : Word) :
    convertedSetting n v =
      BitVec.ofNat 32 (if (n - 20) % 3 = 2 then min 3 v.toNat else (v.extractLsb' 0 16).toNat) := by
  obtain ⟨k, rfl⟩ := Nat.exists_eq_add_of_le h20
  match k, h32 with
  | 2, _ | 5, _ | 8, _ | 11, _ =>
    show BitVec.ofNat 32 (max 0 (min 3 v.toNat)) = BitVec.ofNat 32 (min 3 v.toNat)
    rw [Nat.zero_max]
  | 0, _ | 1, _ | 3, _ | 4, _ | 6, _ | 7, _ | 9, _ | 10, _ => exact (ofNat_low v).symm
  | k + 12, h => exact absurd h (by omega)

/-- One stored setting, and every other setting beside it. -/
theorem settingItem_storeSetting (s : State) (x : Side) {n m : Nat} (hn : n < 33) (hm : m < 33) (v : Word) :
    settingItem (storeSetting s x n v) x m = if m = n then convertedSetting n v else settingItem s x m := by
  unfold storeSetting
  by_cases hn20 : n < 20
  · rw [if_pos hn20]
    unfold settingItem
    rw [onSide_side_same, onSide_warnPulseWidth]
    by_cases hm20 : m < 20
    · rw [if_pos hm20, if_pos hm20]
      by_cases h : m = n
      · rw [if_pos h, h]
        exact value_write_same _ hn20 v
      · rw [if_neg h]
        exact value_write_other _ hn20 hm20 h v
    · rw [if_neg hm20, if_neg hm20, if_neg (show ¬ m = n by omega)]
  rw [if_neg hn20]
  by_cases hn32 : n < 32
  · rw [if_pos hn32]
    unfold settingItem
    rw [onSide_side_same, onSide_warnPulseWidth]
    by_cases hm20 : m < 20
    · rw [if_pos hm20, if_pos hm20, if_neg (show ¬ m = n by omega)]
    rw [if_neg hm20, if_neg hm20]
    by_cases hm32 : m < 32
    · rw [if_pos hm32, if_pos hm32]
      dsimp only
      rw [nth_onNth _ _ (show (n - 20) / 3 < 4 by omega) (show (m - 20) / 3 < 4 by omega)]
      by_cases hgroup : (m - 20) / 3 = (n - 20) / 3
      · obtain ⟨hother, hsame⟩ := setting_write ((s.side x).groups.nth ((m - 20) / 3))
          (show (n - 20) % 3 < 3 by omega) (show (m - 20) % 3 < 3 by omega) v
        rw [if_pos hgroup]
        by_cases h : m = n
        · rw [if_pos h, convertedSetting_group (by omega) hn32, ← hsame, h]
        · rw [if_neg h, hother (by omega)]
      · rw [if_neg hgroup, if_neg (show ¬ m = n by rintro rfl; exact hgroup rfl)]
    · rw [if_neg hm32, if_neg hm32, if_neg (show ¬ m = n by omega)]
  · rw [if_neg hn32]
    obtain rfl : n = 32 := by omega
    unfold settingItem
    by_cases hm20 : m < 20
    · rw [if_pos hm20, if_pos hm20, if_neg (show ¬ m = 32 by omega)]
      cases x <;> rfl
    rw [if_neg hm20, if_neg hm20]
    by_cases hm32 : m < 32
    · rw [if_pos hm32, if_pos hm32, if_neg (show ¬ m = 32 by omega)]
      cases x <;> rfl
    · rw [if_neg hm32, if_neg hm32, if_pos (show m = 32 by omega)]
      exact congrArg _ (toRange_eq (by decide) v)

/-- The settings that the values of a request give, and every other setting beside them. -/
theorem settingItem_storeSettings (x : Side) {m : Nat} (hm : m < 33) : ∀ (vs : List Word) (n : Nat) (s : State),
    n + vs.length ≤ 33 →
    settingItem (storeSettings s x n vs) x m =
      if n ≤ m ∧ m < n + vs.length then convertedSetting m (vs.getD (m - n) 0) else settingItem s x m
  | [], n, s, _ => by
    rw [if_neg (by simp only [List.length_nil]; omega)]
    rfl
  | v :: vs, n, s, hlen => by
    rw [List.length_cons] at hlen ⊢
    rw [storeSettings, settingItem_storeSettings x hm vs (n + 1) _ (by omega),
      settingItem_storeSetting s x (by omega) hm]
    by_cases hlater : n + 1 ≤ m ∧ m < n + 1 + vs.length
    · rw [if_pos hlater, if_pos (by omega), show m - n = m - (n + 1) + 1 by omega, List.getD_cons_succ]
    · rw [if_neg hlater]
      by_cases h : m = n
      · rw [if_pos h, if_pos (by omega), h, Nat.sub_self, List.getD_cons_zero]
      · rw [if_neg h, if_neg (by omega)]

/-! ## WRITE SETTINGS (R191, R194) -/

section
variable {s t : State} {x y : Side}

theorem settingItem_congr (hk : (t.side x).settings = (s.side x).settings)
    (hg : ∀ k j, ((t.side x).groups.nth k).setting j = ((s.side x).groups.nth k).setting j)
    (hw : t.warnPulseWidth = s.warnPulseWidth) (n : Nat) : settingItem t x n = settingItem s x n := by
  rw [settingItem, settingItem, hk, hg, hw]

/-- An evaluation leaves every setting, those of the groups too. -/
theorem settingItem_beside (h : t.besideSupervision x = s.besideSupervision x) (n : Nat) :
    settingItem t x n = settingItem s x n := by
  have hside := beside_side h
  have hgroups : (t.side x).groups.map Group.besideState = (s.side x).groups.map Group.besideState :=
    congrArg SideState.groups hside
  have hnth : ∀ (g : Groups) k j, ((g.map Group.besideState).nth k).setting j = (g.nth k).setting j := by
    intro g k j
    have hset : ∀ g : Group, (Group.besideState g).setting j = g.setting j := fun _ => rfl
    unfold Groups.nth
    split <;> exact hset _
  have hwidth : t.warnPulseWidth = s.warnPulseWidth := by
    have := congrArg State.warnPulseWidth h
    simpa [State.besideSupervision] using this
  have hsettings : (t.side x).besideSupervision.settings = (s.side x).besideSupervision.settings := by rw [hside]
  exact settingItem_congr hsettings (fun k j => by rw [← hnth, hgroups, hnth]) hwidth n

theorem settingItem_written (s : State) (x : Side) (n m : Nat) (vs : List Word) :
    settingItem (written s x n vs) x m = settingItem (storeSettings s x n vs) x m := by
  obtain ⟨time, fault, high, display, hall⟩ := writtenAll_frame n vs s x
  have hside : (storeAs s x (storedSettings (s.side x).settings n vs) (storedGroups (s.side x).groups n vs)
      (storedWidth s.warnPulseWidth n vs)).side x = withSettings (storedSettings (s.side x).settings n vs)
        (storedGroups (s.side x).groups n vs) (s.side x) := by cases x <;> rfl
  have hwidth : (written s x n vs).warnPulseWidth = (storeAs s x (storedSettings (s.side x).settings n vs)
      (storedGroups (s.side x).groups n vs) (storedWidth s.warnPulseWidth n vs)).warnPulseWidth := rfl
  rw [storeSettings_eq]
  refine settingItem_congr ?_ (fun k j => ?_) hwidth m
  · rw [written_side, hside, hall]
    rfl
  · rw [written_side, hside, hall]
    rfl

theorem writeSettings_beside (s : State) (x : Side) (n : Nat) (vs : List Word) :
    (writeSettings s x n vs).besideSupervision x = (written s x n vs).besideSupervision x := by
  rw [writeSettings_eq, Invariants.modeEffect_beside, Invariants.groupEffect_beside]

/-- Every setting after a WRITE SETTINGS. -/
theorem settingItem_writeSettings (s : State) (x : Side) {n m : Nat} {vs : List Word} (hm : m < 33)
    (hlen : n + vs.length ≤ 33) :
    settingItem (writeSettings s x n vs) x m =
      if n ≤ m ∧ m < n + vs.length then convertedSetting m (vs.getD (m - n) 0) else settingItem s x m := by
  rw [settingItem_beside (writeSettings_beside s x n vs), settingItem_written,
    settingItem_storeSettings x hm vs n s hlen]

/-- A write of CaptureDivider makes the reference absent, and no write changes the store, the receiver or the
exposure. -/
theorem writeSettings_side (s : State) (x : Side) (n : Nat) (vs : List Word) :
    ((writeSettings s x n vs).side x).store = (s.side x).store ∧
    ((writeSettings s x n vs).side x).recv = (s.side x).recv ∧
    ((writeSettings s x n vs).side x).exposure = (s.side x).exposure ∧
    (writes n vs.length 3 = true → ((writeSettings s x n vs).side x).timing =
      { (s.side x).timing with reference := none, divider := 0 }) := by
  have hside := beside_side (writeSettings_beside s x n vs)
  rw [written_side] at hside
  obtain ⟨time, fault, high, display, hall⟩ := writtenAll_frame n vs s x
  have hstore := congrArg SideState.store hside
  have hrecv := congrArg SideState.recv hside
  have hexposure := congrArg SideState.exposure hside
  have htiming := congrArg SideState.timing hside
  refine ⟨hstore.trans ?_, hrecv.trans ?_, hexposure.trans ?_, fun h3 => htiming.trans ?_⟩
  · rw [hall]; rfl
  · rw [hall]; rfl
  · rw [hall]; rfl
  · show (writtenAll s x n vs).timing = _
    unfold writtenAll writtenSide
    rw [h3]
    cases writes n vs.length 15 <;> cases (writes n vs.length 10 || writes n vs.length 14) <;> rfl

theorem payloadWords_length : ∀ (n : Nat) (p : List Byte), p.length = 4 * n → (payloadWords p).length = n
  | 0, p, h => by rw [List.length_eq_zero_iff.mp h]; rfl
  | n + 1, [], h => nomatch h
  | n + 1, [_], h | n + 1, [_, _], h | n + 1, [_, _, _], h => by simp at h; omega
  | n + 1, _ :: _ :: _ :: _ :: rest, h =>
    congrArg (· + 1) (payloadWords_length n rest (by simp only [List.length_cons] at h; omega))

theorem settingsInRange_iff {r : Request} : r.settingsInRange = true ↔
    r.count.toNat ≠ 0 ∧ r.count.toNat ≤ 8 ∧ r.payload.length = 4 * r.count.toNat ∧
      r.id.toNat + r.count.toNat ≤ 33 := by
  simp only [Request.settingsInRange, Bool.and_eq_true, decide_eq_true_eq, and_assoc]

/-- A response leaves every setting. -/
theorem settingItem_onLink (s : State) (x y : Side) (h : LinkState → LinkState) (n : Nat) :
    settingItem (s.onLink x h) y n = settingItem s y n := by
  rw [settingItem, settingItem, onLink_side, onLink_warnPulseWidth]

end

/-- Settles O51, by the settings that are stored and what the effects leave of them. -/
theorem settingsWritten : Obligations.SettingsWritten := by
  intro x r s htake hk
  rw [exec_request (i := .writeSettings x) (fun _ => rfl) htake (requestKind_of_kind hk .writeSettings rfl)]
  refine ⟨fun hunknown => ?_, fun y hn hid => ⟨fun hbad => ?_, fun hzero hcount hpay hlast => ?_⟩⟩
  · cases hn : r.names with
    | none => rw [doWriteSettings, hn, ← refuse_takeRequest]
    | some y =>
      have hlarge : 32 < r.id.toNat := hunknown.resolve_left (by rw [hn]; exact Option.some_ne_none y)
      simp only [doWriteSettings, hn]
      rw [if_pos hlarge, refuse_takeRequest]
  · have hrange : ¬ r.settingsInRange = true := fun h => by
      have := settingsInRange_iff.mp h
      omega
    simp only [doWriteSettings, hn, if_neg (Nat.not_lt.mpr hid)]
    rw [if_neg hrange, refuse_takeRequest]
  · have hlen := payloadWords_length _ _ hpay
    have hfits : r.id.toNat + (payloadWords r.payload).length ≤ 33 := by rw [hlen]; exact hlast
    refine ⟨_, rfl, ?_⟩
    simp only [doWriteSettings, hn, if_neg (Nat.not_lt.mpr hid),
      if_pos (settingsInRange_iff.mpr ⟨hzero, hcount, hpay, hlast⟩)]
    obtain ⟨hstore, hrecv, hexposure, htiming⟩ :=
      writeSettings_side (takeRequest s x) y r.id.toNat (payloadWords r.payload)
    rw [takeRequest_side] at hstore hrecv hexposure htiming
    have hitem : ∀ n, n < 33 → settingItem (respond (writeSettings (takeRequest s x) y r.id.toNat
        (payloadWords r.payload)) x .done) y n =
        if r.id.toNat ≤ n ∧ n < r.id.toNat + r.count.toNat then
          convertedSetting n ((payloadWords r.payload).getD (n - r.id.toNat) 0)
        else settingItem s y n := fun n hlt => by
      rw [respond, settingItem_onLink, settingItem_writeSettings _ y hlt hfits, hlen, takeRequest, settingItem_onLink]
    refine ⟨?_, fun k hlt => ?_, fun n hlt hout => ?_, fun hfirst hthree => ?_, fun z hz => ?_, ?_, ?_, ?_⟩
    · obtain ⟨a, b, hlink⟩ :=
        Invariants.beside_link (writeSettings_beside (takeRequest s x) y r.id.toNat (payloadWords r.payload)) x
      rw [respond, onLink_link_same, hlink, written_link, takeRequest, onLink_link_same]
      rfl
    · rw [hitem _ (by omega), if_pos ⟨Nat.le_add_right _ _, by omega⟩, Nat.add_sub_cancel_left]
    · rw [hitem n hlt, if_neg (by omega)]
    · rw [respond, onLink_side]
      refine htiming ?_
      rw [hlen, writes, decide_eq_true hfirst, decide_eq_true hthree]
      rfl
    · rw [respond, onLink_side, beside_side_other hz (writeSettings_beside _ y _ _), written_side_other _ _ _ hz,
        takeRequest_side]
    · rw [respond, onLink_side, hstore]
    · rw [respond, onLink_side, hrecv]
    · rw [respond, onLink_side, hexposure]

end Sys2Proof.Reading
end

section
/-! What a FRAME START and a standalone frame start do to their side and its display link (R4 to R7, R36, R37, R68 to
R71, R165 to R167, R172, R173, R213, R214). -/

namespace Sys2Proof.FrameStarts

open Sys2Proof Sys2Proof.Machine Sys2Proof.Guarding Sys2Proof.BankWords Sys2Proof.Taking Sys2Proof.Forward

/-! ## The egress frame start (R173) -/

section
variable {s : State} {x : Side} {src : Source} {w h : Nat} {colour : Rgb}

/-- A FRAME START that waits for the first frame in progress is the next cell, and an open frame-end run closes. -/
theorem chooseCell_start {l : LinkState} {c : FrameStartCell} {starts : List FrameStartCell} (hf : l.frames ≠ [])
    (hw : l.waitingStarts = c :: starts) (hle : l.frames.length ≤ l.waitingStarts.length) :
    chooseCell s l = { l with run := none, lane := .sending .frameStart c.bytes } := by
  have hnext := nextFrameCell_start (l := { l with run := none }) hf hw hle
  cases hr : l.run with
  | none =>
    rw [chooseCell_closed hr]
    have hsame : { l with run := none } = l := by rw [← hr]
    rw [hsame] at hnext
    rw [hnext, LinkState.send, ← hr]
  | some n =>
    rw [chooseCell_closes hr (.inr (by rw [hw]; exact List.cons_ne_nil _ _)), hnext]
    rfl

theorem beginEgressFrame_busy (hl : (s.link x).lane ≠ .idle) :
    (beginEgressFrame s x src w h colour).link x = (s.link x).beginFrame src (s.side x).pipe.fade w h colour := by
  rw [beginEgressFrame, kick_busy _ x (by rw [onLink_link_same]; exact hl), onLink_link_same]

/-- On an idle lane with nothing in progress the oldest FRAME START that waits is sent. -/
theorem beginEgressFrame_idle (hl : (s.link x).lane = .idle) (hf : (s.link x).frames = []) :
    ∃ c starts, (s.link x).waitingStarts ++
        [⟨(s.link x).number, src, decide (0 < (s.side x).pipe.fade) || src.bit, w, h⟩] = c :: starts ∧
      (beginEgressFrame s x src w h colour).link x =
        { (s.link x).beginFrame src (s.side x).pipe.fade w h colour with
          run := none, lane := .sending .frameStart c.bytes } := by
  obtain ⟨c, starts, hstarts⟩ : ∃ c starts, (s.link x).waitingStarts ++
      [⟨(s.link x).number, src, decide (0 < (s.side x).pipe.fade) || src.bit, w, h⟩] = c :: starts := by
    cases (s.link x).waitingStarts with
    | nil => exact ⟨_, _, rfl⟩
    | cons c starts => exact ⟨_, _, rfl⟩
  refine ⟨c, starts, hstarts, ?_⟩
  have hframes : ((s.link x).beginFrame src (s.side x).pipe.fade w h colour).frames =
      [⟨src, w, h, colour, 0, false⟩] := by rw [LinkState.beginFrame, hf]; rfl
  rw [beginEgressFrame, kick_onLink (h := fun l => l.beginFrame src (s.side x).pipe.fade w h colour) hl,
    onLink_link_same]
  refine chooseCell_start (by rw [hframes]; exact List.cons_ne_nil _ _) hstarts ?_
  rw [hframes, LinkState.beginFrame, hstarts]
  simp

/-- The egress frame number advances, and one more frame is in progress (R173). -/
theorem beginEgressFrame_counts (s : State) (x : Side) (src : Source) (w h : Nat) (colour : Rgb) :
    ((beginEgressFrame s x src w h colour).link x).number = (s.link x).number + 1 ∧
      ((beginEgressFrame s x src w h colour).link x).frames.length = (s.link x).frames.length + 1 := by
  have hbegun : ((s.link x).beginFrame src (s.side x).pipe.fade w h colour).frames.length =
      (s.link x).frames.length + 1 := by rw [LinkState.beginFrame, List.length_append]; rfl
  by_cases hl : (s.link x).lane = .idle
  · have hnumber := congrArg LinkState.number (chooseCell_beside s
      ((s.link x).beginFrame src (s.side x).pipe.fade w h colour))
    rw [beginEgressFrame, kick_onLink (h := fun l => l.beginFrame src (s.side x).pipe.fade w h colour) hl,
      onLink_link_same, (chooseCell_waiting _ _).2]
    exact ⟨hnumber, hbegun⟩
  · rw [beginEgressFrame_busy hl]
    exact ⟨rfl, hbegun⟩

/-- What an egress frame start leaves of the lane, of the FRAME STARTs that wait and of the frames in progress. -/
theorem beginEgressFrame_lane (s : State) (x : Side) (src : Source) (w h : Nat) (colour : Rgb) :
    let l := s.link x
    let m := (beginEgressFrame s x src w h colour).link x
    let start : FrameStartCell := ⟨l.number, src, decide (0 < (s.side x).pipe.fade) || src.bit, w, h⟩
    (l.lane ≠ .idle → m.lane = l.lane ∧ m.waitingStarts = l.waitingStarts ++ [start] ∧
      m.frames = l.frames ++ [⟨src, w, h, colour, 0, false⟩]) ∧
    (l.lane = .idle → l.frames = [] → l.waitingStarts = [] →
      m.lane = .sending .frameStart start.bytes ∧ m.waitingStarts = [start]) ∧
    (l.frames = [] → m.frames = [⟨src, w, h, colour, 0, false⟩]) := by
  refine ⟨fun hl => ?_, fun hl hf hw => ?_, fun hf => ?_⟩
  · rw [beginEgressFrame_busy hl]
    exact ⟨rfl, rfl, rfl⟩
  · obtain ⟨c, starts, hstarts, hlink⟩ := beginEgressFrame_idle (src := src) (w := w) (h := h) (colour := colour) hl hf
    rw [hw, List.nil_append] at hstarts
    obtain rfl := (List.cons.inj hstarts).1
    rw [hlink]
    refine ⟨rfl, ?_⟩
    show (s.link x).waitingStarts ++ [_] = [_]
    rw [hw]
    rfl
  · have hframes : ((s.link x).beginFrame src (s.side x).pipe.fade w h colour).frames =
        [⟨src, w, h, colour, 0, false⟩] := by rw [LinkState.beginFrame, hf]; rfl
    by_cases hl : (s.link x).lane = .idle
    · obtain ⟨c, starts, -, hlink⟩ := beginEgressFrame_idle (src := src) (w := w) (h := h) (colour := colour) hl hf
      rw [hlink]
      exact hframes
    · rw [beginEgressFrame_busy hl, hframes]

/-! ## What a side takes at an egress frame start (R70, R71, R158) -/

/-- A side and its link after an evaluation, but for the outcome of that evaluation. -/
theorem settled_side (s : State) (x : Side) (before : Conditions) :
    ∃ groups guard, (settle s x before).side x = { s.side x with groups := groups, guard := guard } :=
  ⟨_, _, besideSupervision_rest (beside_side (settle_beside s x before)).symm⟩

theorem guardStep_side (s : State) (x : Side) :
    (guardStep s x).side x = { s.side x with guard := (s.side x).guard.stepped (s.side x).settings } := by
  rw [← guardStep_guard, besideSupervision_rest (beside_side (guardStep_beside s x)).symm, guardStep_groups]

theorem startEgress_side (s : State) (x : Side) (src : Source) (w h : Nat) (colour : Rgb) :
    (startEgress s x src w h colour).side x =
      SideState.takeInUse { s.side x with guard := (s.side x).guard.stepped (s.side x).settings } := by
  rw [startEgress, Receiving.beginEgressFrame_side, onSide_side_same, guardStep_side]

/-- The link at the moment when the FRAME START is built. -/
theorem startEgress_link (s : State) (x : Side) :
    ∃ a b, ((guardStep s x).onSide x SideState.takeInUse).link x = { s.link x with reportA := a, reportB := b } := by
  obtain ⟨a, b, h⟩ := Invariants.beside_link (guardStep_beside s x) x
  exact ⟨a, b, by rw [onSide_link, h]⟩

theorem startEgress_side_other {y : Side} (hy : y ≠ x) : (startEgress s x src w h colour).side y = s.side y := by
  rw [startEgress, Receiving.beginEgressFrame_side, onSide_side_other _ _ hy,
    beside_side_other hy (guardStep_beside s x)]

theorem swapIfPending_side_other {y : Side} (hy : y ≠ x) : (swapIfPending s x).side y = s.side y := by
  unfold swapIfPending
  split
  · rw [beside_side_other hy (settle_beside _ x _), markReports_side, onSide_side_other _ _ hy]
  · rfl

theorem swapIfPending_timeBase (s : State) (x : Side) : (swapIfPending s x).timeBase = s.timeBase := by
  unfold swapIfPending
  split
  · rw [beside_timeBase (settle_beside _ x _), beside_timeBase (markReports_beside _ x), onSide_timeBase]
  · rfl

/-- A swap leaves a link but for its report-pending flags. -/
theorem swapIfPending_link (s : State) (x y : Side) :
    ∃ a b, (swapIfPending s x).link y = { s.link y with reportA := a, reportB := b } := by
  unfold swapIfPending
  split
  · obtain ⟨a, b, h⟩ := Invariants.beside_link ((settle_beside (markReports (s.onSide x SideState.swap) x) x
      (s.side x).cond).trans (markReports_beside (s.onSide x SideState.swap) x)) y
    exact ⟨a, b, by rw [h, onSide_link]⟩
  · exact ⟨_, _, rfl⟩

end

/-! ## A FRAME START outside a frame (R4 to R7) -/

section
variable {s : State} {x : Side} {body : List Byte} {i : BankId}

theorem exec_cameraFrameStart_outside (hfree : s.resetHeld = false) (hw : (s.side x).pipe.waiting = none)
    (hr : (s.side x).recv.state ≠ .receiving) (hgood : cellGood 0x01 8 body = true) :
    exec (.cameraFrameStart x body) s = .next (judgeStart (swapIfPending s x) x body) := by
  rw [Reception.exec_cameraFrameStart_of_not_waiting hw, exec_unheld hfree, takeFrameStart, if_pos hgood, if_neg hr]

theorem judgeStart_none (h : (s.side x).store.active = none) :
    judgeStart s x body = s.onSide x (·.setRecv .discarding) := by
  rw [judgeStart, h]

theorem judgeStart_reject (h : (s.side x).store.active = some i)
    (hsize : ¬ (fsWidth body = (s.side x).developValues.width ∧ fsHeight body = (s.side x).developValues.height)) :
    judgeStart s x body =
      settle (s.onSide x fun d => d.takeDevelop.rejectFormat) x (s.side x).cond := by
  rw [judgeStart, h]
  dsimp only
  rw [if_neg hsize, onSide_onSide]

theorem judgeStart_accept (h : (s.side x).store.active = some i)
    (hwidth : fsWidth body = (s.side x).developValues.width)
    (hheight : fsHeight body = (s.side x).developValues.height) :
    judgeStart s x body =
      acceptFrame (s.onSide x SideState.takeDevelop) x (s.side x).cond (fsNumber body) (s.side x).developValues := by
  rw [judgeStart, h]
  exact if_pos ⟨hwidth, hheight⟩

/-- The acceptance before the guard steps and the egress frame starts. -/
def acceptedState (s : State) (x : Side) (before : Conditions) (number : Byte) (values : FrameValues) : State :=
  settle ((s.onSide x fun d => d.accept s.timeBase number values).onLink x (·.handEnd .standalone)) x before

theorem acceptFrame_eq (s : State) (x : Side) (before : Conditions) (number : Byte) (values : FrameValues) :
    acceptFrame s x before number values =
      startEgress (acceptedState s x before number values) x .follow values.width values.height Rgb.black := rfl

theorem acceptedState_side (s : State) (x : Side) (before : Conditions) (number : Byte) (values : FrameValues) :
    ∃ groups guard, (acceptedState s x before number values).side x =
      { (s.side x).accept s.timeBase number values with groups := groups, guard := guard } ∧
      (((s.side x).accept s.timeBase number values).cond = before → guard = (s.side x).guard) := by
  obtain ⟨groups, guard, h⟩ := settled_side ((s.onSide x fun d => d.accept s.timeBase number values).onLink x
    (·.handEnd .standalone)) x before
  rw [onLink_side, onSide_side_same] at h
  refine ⟨groups, guard, h, fun hc => ?_⟩
  have hsame : acceptedState s x before number values =
      (s.onSide x fun d => d.accept s.timeBase number values).onLink x (·.handEnd .standalone) :=
    Records.settle_of_cond (by rw [onLink_side, onSide_side_same, hc])
  have hguard := congrArg SideState.guard h
  rw [← acceptedState, hsame, onLink_side, onSide_side_same] at hguard
  exact hguard.symm

theorem acceptedState_link (s : State) (x : Side) (before : Conditions) (number : Byte) (values : FrameValues) :
    ∃ a b, (acceptedState s x before number values).link x =
      { (s.link x).handEnd .standalone with reportA := a, reportB := b } := by
  obtain ⟨a, b, h⟩ := Invariants.beside_link (settle_beside ((s.onSide x fun d =>
    d.accept s.timeBase number values).onLink x (·.handEnd .standalone)) x before) x
  rw [onLink_link_same, onSide_link] at h
  exact ⟨a, b, h⟩

theorem acceptFrame_side_other {y : Side} (hy : y ≠ x) (before : Conditions) (number : Byte) (values : FrameValues) :
    (acceptFrame s x before number values).side y = s.side y := by
  rw [acceptFrame_eq, startEgress_side_other hy, acceptedState, beside_side_other hy (settle_beside _ x _), onLink_side,
    onSide_side_other _ _ hy]

/-- A capture always notes its time (R30). -/
theorem capture_last (t : Timing) (now : Time) (divider : Nat) : (t.capture now divider).last = now := by
  unfold Timing.capture
  split
  · rfl
  · split <;> rfl

/-- The ack counter of a SENT slot at an accepted frame start (R121). -/
theorem frameStart_sent {e : Exposure} {tag : BitVec 4} {index acks ackFrames : Nat} (h : e.slot = .sent tag index acks) :
    (acks + 1 < ackFrames → e.frameStart ackFrames = { e with slot := .sent tag index (acks + 1) } ∧
      e.timesOut ackFrames = false) ∧
    (ackFrames ≤ acks + 1 → e.timesOut ackFrames = true ∧
      (e.lane ≠ .idle → e.frameStart ackFrames = { e with slot := .waitingTx tag index }) ∧
      (e.lane = .idle → e.frameStart ackFrames =
        { e with slot := .sent tag index 0, lane := .exposure (exposureCell tag index) })) := by
  rw [Exposure.frameStart, Exposure.timesOut, h]
  dsimp only
  refine ⟨fun hlt => ⟨if_neg (Nat.not_le.mpr hlt), decide_eq_false (Nat.not_le.mpr hlt)⟩,
    fun hle => ⟨decide_eq_true hle, fun hl => ?_, fun hl => ?_⟩⟩
  · rw [if_pos hle]
    exact choose_busy _ hl
  · rw [if_pos hle]
    exact Records.choose_waitingTx (e := { e with slot := .waitingTx tag index }) hl rfl

theorem frameStart_unsent {e : Exposure} {ackFrames : Nat} (h : ∀ tag index acks, e.slot ≠ .sent tag index acks) :
    e.frameStart ackFrames = e ∧ e.timesOut ackFrames = false := by
  rw [Exposure.frameStart, Exposure.timesOut]
  cases hs : e.slot with
  | sent tag index acks => exact absurd hs (h tag index acks)
  | empty | waitingTx => exact ⟨rfl, rfl⟩

end

/-- Settles O14, by the three answers to a FRAME START. -/
theorem frameStartRejected : Obligations.FrameStartRejected := by
  intro x body s hfree hw hr hgood
  rw [exec_cameraFrameStart_outside hfree hw hr hgood]
  refine ⟨fun hnone => congrArg _ (judgeStart_none hnone), fun i hi => ?_⟩
  intro taken hsize
  have hactive := activeBank_of_active hi
  have hwidth : ((swapIfPending s x).side x).developValues.width = taken 0 := by rw [developValues_width, hactive]
  have hheight : ((swapIfPending s x).side x).developValues.height = taken 1 := by rw [developValues_height, hactive]
  have hother : ¬ (fsWidth body = ((swapIfPending s x).side x).developValues.width ∧
      fsHeight body = ((swapIfPending s x).side x).developValues.height) := fun h => by
    rw [hwidth, hheight] at h
    exact hsize (Prod.ext h.1 h.2)
  obtain ⟨groups, guard, hside⟩ := settle_side (swapIfPending s x) x (fun d => d.takeDevelop.rejectFormat)
    ((swapIfPending s x).side x).cond
  refine ⟨_, rfl, ?_⟩
  rw [judgeStart_reject hi hother, hside]
  have hsize := takeDevelop_frameSize ((swapIfPending s x).side x)
  rw [hwidth, hheight] at hsize
  have hparity := takeDevelop_parity hi
  have hfound := takeDevelop_found hi
  have hframe := takeDevelop_frame ((swapIfPending s x).side x)
  refine ⟨hsize, hparity, hfound, rfl, rfl, ?_, ?_, ?_, ?_, ?_, ?_, ?_, ?_, ?_, ?_, fun y => ?_, fun y hy => ?_⟩
  rotate_left 10
  · obtain ⟨a, b, h⟩ := Invariants.beside_link (settle_beside ((swapIfPending s x).onSide x fun d =>
      d.takeDevelop.rejectFormat) x ((swapIfPending s x).side x).cond) y
    rw [h, onSide_link]
  · rw [settle_side_other _ _ hy, swapIfPending_side_other hy]
  all_goals
    dsimp only [SideState.rejectFormat, SideState.setRecv]
    rw [hframe]

/-- Settles O15, by the acceptance and the egress frame start that follows it. -/
theorem frameStartAccepted : Obligations.FrameStartAccepted := by
  intro x body s hfree hw hr hgood s0 d l i hi taken w h hwd hht
  have hactive := activeBank_of_active hi
  have hwidth : d.developValues.width = w := by rw [developValues_width, hactive]
  have hheight : d.developValues.height = h := by rw [developValues_height, hactive]
  refine ⟨_, exec_cameraFrameStart_outside hfree hw hr hgood, ?_⟩
  have hvalues : d.developValues = (List.range 491).map taken := developValues_eq hi
  rw [judgeStart_accept hi (hwd.trans hwidth.symm) (hht.trans hheight.symm), acceptFrame_eq, hwidth, hheight]
  obtain ⟨groups, guard, hside, hguard⟩ := acceptedState_side (s0.onSide x SideState.takeDevelop) x d.cond
    (fsNumber body) d.developValues
  obtain ⟨a, b, hlink⟩ := acceptedState_link (s0.onSide x SideState.takeDevelop) x d.cond (fsNumber body)
    d.developValues
  have hother : ∀ y, y ≠ x → (startEgress (acceptedState (s0.onSide x SideState.takeDevelop) x d.cond (fsNumber body)
      d.developValues) x .follow w h Rgb.black).side y = s.side y := fun y hy => by
    rw [← hwidth, ← hheight, ← acceptFrame_eq, acceptFrame_side_other hy, onSide_side_other _ _ hy,
      swapIfPending_side_other hy]
  have hbase : (s0.onSide x SideState.takeDevelop).timeBase = s.timeBase := by
    rw [onSide_timeBase, swapIfPending_timeBase]
  rw [hbase, onSide_side_same] at hside hguard
  rw [onSide_link] at hlink
  have hsize := takeDevelop_frameSize d
  rw [hwidth, hheight] at hsize
  have hparity := takeDevelop_parity hi
  have hfound := takeDevelop_found hi
  have hframe := takeDevelop_frame d
  generalize acceptedState (s0.onSide x SideState.takeDevelop) x d.cond (fsNumber body) d.developValues = u at *
  have hstart := startEgress_side u x .follow w h Rgb.black
  rw [hside] at hstart
  obtain ⟨a', b', hlink'⟩ := startEgress_link u x
  have hfade : (((guardStep u x).onSide x SideState.takeInUse).side x) =
      (startEgress u x .follow w h Rgb.black).side x := (Receiving.beginEgressFrame_side _ _ _ _ _ _ _).symm
  obtain ⟨hnumber, hlength⟩ :=
    beginEgressFrame_counts ((guardStep u x).onSide x SideState.takeInUse) x .follow w h Rgb.black
  obtain ⟨hbusy, hidle, hfirst⟩ :=
    beginEgressFrame_lane ((guardStep u x).onSide x SideState.takeInUse) x .follow w h Rgb.black
  rw [hlink', hlink] at hnumber hlength hbusy hidle hfirst
  rw [hfade] at hbusy hidle
  have hwarning : ∀ fade : Nat, (decide (0 < fade) || Source.follow.bit) = decide (0 < fade) := fun _ => Bool.or_false _
  rw [hwarning] at hbusy hidle
  have hexposure : ((startEgress u x .follow w h Rgb.black).side x).exposure =
      d.exposure.frameStart d.settings.ackFrames := by
    rw [hstart]
    show d.takeDevelop.exposure.frameStart d.takeDevelop.settings.ackFrames = _
    rw [hframe]
  have hnoAck : ((startEgress u x .follow w h Rgb.black).side x).cond.cameraNoAck =
      (d.cond.cameraNoAck || d.exposure.timesOut d.settings.ackFrames) := by
    rw [hstart]
    show (d.takeDevelop.cond.cameraNoAck ||
      d.takeDevelop.exposure.timesOut d.takeDevelop.settings.ackFrames) = _
    rw [hframe]
  dsimp only
  refine ⟨?_, ?_, ?_, ?_, ?_, ?_, ?_, ?_, ?_, ?_, ?_, ?_, ?_, ?_, ?_, ?_, ?_, ?_, ?_, ?_, fun tag index acks hslot => ?_,
    fun hslot => ?_, fun hsame => ?_, fun size hold hne => ?_, ?_, ?_, fun hcond => ?_, ?_, hnumber, ?_,
    ⟨hbusy, fun hl hf hws => ?_⟩, hother⟩
  rotate_left 20
  · rw [hexposure, hnoAck]
    obtain ⟨hcounts, htimes⟩ := frameStart_sent (ackFrames := d.settings.ackFrames) hslot
    refine ⟨fun hlt => ?_, fun hle => ?_⟩
    · obtain ⟨hexp, hout⟩ := hcounts hlt
      rw [hexp, hout, Bool.or_false]
      exact ⟨rfl, rfl⟩
    · obtain ⟨hout, hagain⟩ := htimes hle
      rw [hout, Bool.or_true]
      exact ⟨rfl, hagain⟩
  · obtain ⟨hexp, hout⟩ := frameStart_unsent (ackFrames := d.settings.ackFrames) hslot
    rw [hexposure, hnoAck, hexp, hout, Bool.or_false]
    exact ⟨rfl, rfl⟩
  · have hkeep := takeDevelop_same (d := d) (by rw [hwidth, hheight]; exact hsame)
    rw [hstart]
    show (if d.takeDevelop.pipe.nextReady then d.takeDevelop.glare.next else d.takeDevelop.pipe.map) = _
    rw [hkeep, findFailed_frame]
  · obtain ⟨hmap, hnext⟩ := takeDevelop_other (d := d) hold (by rw [hwidth, hheight]; exact hne)
    rw [hstart]
    show (if d.takeDevelop.pipe.nextReady then d.takeDevelop.glare.next else d.takeDevelop.pipe.map) = _
    rw [hmap, hnext, ite_self]
  · rw [hstart]
    show (if d.takeDevelop.pipe.nextReady then d.takeDevelop.glare.nextKnee else d.takeDevelop.pipe.knee) = _
    rw [hframe]
  · rw [hstart]
    rfl
  · rw [hstart] at hcond ⊢
    have hkept := hguard hcond
    show guard.stepped d.takeDevelop.settings = _
    rw [hkept, hframe]
  · rw [hstart]
    rfl
  · rw [startEgress, hlength, LinkState.handEnd]
    exact congrArg (· + 1) (List.length_map _)
  · have hnone : l.frames.map (fun f => if f.source = .standalone then { f with ended := true } else f) = [] := by
      rw [hf]
      rfl
    obtain ⟨hlane, hstarts⟩ := hidle hl hnone hws
    exact ⟨hlane, hstarts, hfirst hnone⟩
  all_goals rw [hstart]
  case refine_3 =>
    show d.takeDevelop.intervalJudged s.timeBase = _
    rw [hframe]
    rfl
  case refine_12 => exact capture_last _ _ _
  case refine_13 =>
    show d.takeDevelop.timing.capture s.timeBase d.takeDevelop.settings.captureDivider = _
    rw [hframe]
  case refine_14 => exact congrArg some hvalues
  case refine_15 => exact hsize
  case refine_16 => exact hparity
  case refine_17 => exact hfound
  all_goals rfl

/-! ## A standalone frame start (R36, R37, R166, R214) -/

section
variable {s : State} {x : Side} {i : BankId}

theorem exec_standaloneFrameStart (hfree : s.resetHeld = false) (hdue : (s.side x).standaloneDue = true)
    (hsource : (s.side x).source = .standalone) (hframes : (s.link x).frames = []) :
    exec (.standaloneFrameStart x) s = .next (startStandalone s x) := by
  have hexec : exec (.standaloneFrameStart x) s = execStandaloneFrameStart x s := rfl
  have henabled : standaloneEnabled s x = true := by simp [standaloneEnabled, hdue, hsource, hframes]
  rw [hexec, execStandaloneFrameStart, exec_unheld hfree, if_pos henabled]

/-- The side of a standalone frame start once its timer runs, its guard has stepped and it has taken what is in use. -/
def SideReadied (d : SideState) (now : Time) : SideState :=
  SideState.takeInUse
    { d with standaloneDue := false, periodTimer := some now, guard := d.guard.stepped d.settings }

/-- The part before the evaluation of the findings of a standalone frame start. -/
def standaloneBegun (s : State) (x : Side) : State :=
  let s2 := (swapIfPending s x).onSide x fun d => { d with standaloneDue := false, periodTimer := some s.timeBase }
  let s3 := (guardStep s2 x).onSide x SideState.takeInUse
  let d := s3.side x
  beginEgressFrame (s3.onSide x SideState.takeStandalone) x .standalone d.standaloneSize.1 d.standaloneSize.2
    d.standaloneColour

theorem startStandalone_eq (s : State) (x : Side) :
    startStandalone s x =
      settle (standaloneBegun s x) x
        (SideReadied ((swapIfPending s x).side x) s.timeBase).cond := by
  have hside : (((guardStep ((swapIfPending s x).onSide x fun d =>
      { d with standaloneDue := false, periodTimer := some s.timeBase }) x).onSide x SideState.takeInUse).side x).cond =
      (SideReadied ((swapIfPending s x).side x) s.timeBase).cond := by
    rw [onSide_side_same, guardStep_side, onSide_side_same]
    rfl
  rw [← hside]
  rfl

/-- The side of a standalone frame start, but for the evaluation of its findings (log 10). -/
theorem standaloneBegun_side (s : State) (x : Side) :
    (standaloneBegun s x).side x = (SideReadied ((swapIfPending s x).side x) s.timeBase).takeStandalone := by
  rw [standaloneBegun, Receiving.beginEgressFrame_side, onSide_side_same, onSide_side_same, guardStep_side, onSide_side_same]
  rfl

theorem startStandalone_side (s : State) (x : Side) :
    ∃ groups guard, (startStandalone s x).side x =
      { (SideReadied ((swapIfPending s x).side x) s.timeBase).takeStandalone with groups := groups, guard := guard } := by
  obtain ⟨groups, guard, h⟩ := settled_side (standaloneBegun s x) x
    (SideReadied ((swapIfPending s x).side x) s.timeBase).cond
  rw [standaloneBegun_side] at h
  exact ⟨groups, guard, by rw [startStandalone_eq, h]⟩

theorem startStandalone_side_other {y : Side} (hy : y ≠ x) : (startStandalone s x).side y = s.side y := by
  rw [startStandalone_eq, beside_side_other hy (settle_beside _ x _), standaloneBegun,
    Receiving.beginEgressFrame_side, onSide_side_other _ _ hy, onSide_side_other _ _ hy,
    beside_side_other hy (guardStep_beside _ x), onSide_side_other _ _ hy, swapIfPending_side_other hy]

/-- The size and the colour of a standalone frame, from the store alone (R166). -/
theorem standaloneSize_readied (d : SideState) (now : Time) :
    (SideReadied d now).standaloneSize = d.standaloneSize ∧
      (SideReadied d now).standaloneColour = d.standaloneColour := ⟨rfl, rfl⟩

/-- A standalone frame start's taking changes what that of any frame start changes, and the frame values. -/
theorem takeStandalone_frame (d : SideState) :
    let e := d.takeStandalone
    e =
      { d with
        store := { d.store with parity := e.store.parity, frameSize := e.store.frameSize }
        cond := { d.cond with tableParity := e.cond.tableParity }
        stats := e.stats
        glare :=
          { d.glare with
            target := e.glare.target, current := e.glare.current, next := e.glare.next, update := e.glare.update }
        pipe := { d.pipe with map := e.pipe.map, values := e.pipe.values }
        recv :=
          { d.recv with
            lastGood := e.recv.lastGood, freeze := e.recv.freeze, prevSignature := e.recv.prevSignature } } := by
  dsimp only
  unfold SideState.takeStandalone
  split
  · rfl
  · have h := takeDevelop_frame d
    dsimp only
    generalize d.takeDevelop = e at h ⊢
    rw [h]

/-- What a standalone frame start leaves of its display link. -/
theorem startStandalone_link (hf : ((swapIfPending s x).link x).frames = []) :
    let l := (swapIfPending s x).link x
    let d := (swapIfPending s x).side x
    let m := (startStandalone s x).link x
    let start : FrameStartCell := ⟨l.number, .standalone, true, d.standaloneSize.1, d.standaloneSize.2⟩
    m.number = l.number + 1 ∧
    m.frames = [⟨.standalone, d.standaloneSize.1, d.standaloneSize.2, d.standaloneColour, 0, false⟩] ∧
    (l.lane = .idle → l.waitingStarts = [] → m.lane = .sending .frameStart start.bytes) ∧
    (l.lane ≠ .idle → m.lane = l.lane ∧ m.waitingStarts = l.waitingStarts ++ [start]) := by
  intro l d m start
  generalize hs3 : (guardStep ((swapIfPending s x).onSide x fun d =>
    { d with standaloneDue := false, periodTimer := some s.timeBase }) x).onSide x SideState.takeInUse = s3
  have hside : s3.side x = SideReadied d s.timeBase := by
    rw [← hs3, onSide_side_same, guardStep_side, onSide_side_same]
    rfl
  obtain ⟨a, b, hlink⟩ : ∃ a b, s3.link x = { l with reportA := a, reportB := b } := by
    obtain ⟨a, b, h⟩ := startEgress_link ((swapIfPending s x).onSide x fun d =>
      { d with standaloneDue := false, periodTimer := some s.timeBase }) x
    rw [hs3, onSide_link] at h
    exact ⟨a, b, h⟩
  have hbegun : standaloneBegun s x = beginEgressFrame (s3.onSide x SideState.takeStandalone) x .standalone
      d.standaloneSize.1 d.standaloneSize.2 d.standaloneColour := by
    rw [standaloneBegun, hs3, hside]
    rfl
  obtain ⟨a', b', hm⟩ := Invariants.beside_link (settle_beside (standaloneBegun s x) x (SideReadied d s.timeBase).cond) x
  rw [← startStandalone_eq, hbegun] at hm
  obtain ⟨hnumber, -⟩ := beginEgressFrame_counts (s3.onSide x SideState.takeStandalone) x .standalone
    d.standaloneSize.1 d.standaloneSize.2 d.standaloneColour
  obtain ⟨hbusy, hidle, hfirst⟩ := beginEgressFrame_lane (s3.onSide x SideState.takeStandalone) x .standalone
    d.standaloneSize.1 d.standaloneSize.2 d.standaloneColour
  have hwarning : ∀ fade : Nat, (decide (0 < fade) || Source.standalone.bit) = true := fun _ => Bool.or_true _
  rw [onSide_link, hlink] at hnumber hbusy hidle hfirst
  rw [hwarning] at hbusy hidle
  have hm' : m = _ := hm
  rw [hm']
  refine ⟨hnumber, hfirst hf, fun hl hw => (hidle hl hf hw).1, fun hl => ?_⟩
  obtain ⟨hlane, hstarts, -⟩ := hbusy hl
  exact ⟨hlane, hstarts⟩

end

/-- Settles O25, by what the side takes and the frame that begins. -/
theorem standaloneFrameStarts : Obligations.StandaloneFrameStarts := by
  intro x s hfree hdue hsource hframes s0 d l
  have hf : l.frames = [] := by
    obtain ⟨a, b, h⟩ := swapIfPending_link s x x
    show ((swapIfPending s x).link x).frames = []
    rw [h]
    exact hframes
  refine ⟨_, exec_standaloneFrameStart hfree hdue hsource hframes, ?_⟩
  obtain ⟨hnumber, hfirst, hidle, hbusy⟩ := startStandalone_link hf
  obtain ⟨groups, guard, hside⟩ := startStandalone_side s x
  have hbegun : ∀ w h colour, d.standaloneSize = (w, h) → d.standaloneColour = colour →
      let start : FrameStartCell := ⟨l.number, .standalone, true, w, h⟩
      ((startStandalone s x).link x).frames = [⟨.standalone, w, h, colour, 0, false⟩] ∧
      (l.lane = .idle → l.waitingStarts = [] →
        ((startStandalone s x).link x).lane = .sending .frameStart start.bytes) ∧
      (l.lane ≠ .idle → ((startStandalone s x).link x).lane = l.lane ∧
        ((startStandalone s x).link x).waitingStarts = l.waitingStarts ++ [start]) := by
    intro w h colour hsize hcolour
    have hsize' : ((swapIfPending s x).side x).standaloneSize = (w, h) := hsize
    have hcolour' : ((swapIfPending s x).side x).standaloneColour = colour := hcolour
    rw [hsize', hcolour'] at hfirst
    rw [hsize'] at hidle hbusy
    exact ⟨hfirst, hidle, hbusy⟩
  have hframe := takeStandalone_frame (SideReadied d s.timeBase)
  have htaken : ∀ i, d.store.active = some i → (SideReadied d s.timeBase).takeStandalone =
      { (SideReadied d s.timeBase).takeDevelop with
        pipe := { (SideReadied d s.timeBase).takeDevelop.pipe with values := some d.developValues } } :=
    fun i hi => takeStandalone_of_active hi
  have hnothing : d.store.active = none → (SideReadied d s.timeBase).takeStandalone = SideReadied d s.timeBase :=
    fun hnone => takeStandalone_none hnone
  dsimp only at hframe ⊢
  rw [hside]
  refine ⟨?_, ?_, hnumber, fun hnone => ⟨hbegun _ _ _ ?_ ?_, ?_⟩, fun i hi => ?_, ?_, ?_, ?_, ?_, ?_, ?_, ?_,
    fun y hy => startStandalone_side_other hy⟩
  case refine_3 => rw [SideState.standaloneSize, hnone]
  case refine_4 => rw [SideState.standaloneColour, hnone]
  case refine_5 =>
    dsimp only
    rw [hnothing hnone]
    exact ⟨rfl, rfl, rfl⟩
  case refine_6 =>
    have hword : ∀ {w : Nat}, w < 491 → d.developValues.word w = ((d.store.bank i).read w).used w := fun hw => by
      rw [developValues_word d hw, activeBank_of_active hi]
    have hsize := takeDevelop_frameSize (SideReadied d s.timeBase)
    have hsame : (SideReadied d s.timeBase).developValues = d.developValues := rfl
    have hwidth : d.developValues.width = ((d.store.bank i).read 0).used 0 := hword (by decide)
    have hheight : d.developValues.height = ((d.store.bank i).read 1).used 1 := hword (by decide)
    rw [hsame, hwidth, hheight] at hsize
    dsimp only
    rw [htaken i hi]
    refine ⟨hbegun _ _ _ ?_ ?_, congrArg some (developValues_eq hi), hsize,
      takeDevelop_parity (d := SideReadied d s.timeBase) hi, takeDevelop_found (d := SideReadied d s.timeBase) hi,
      fun hold => ?_⟩
    · rw [SideState.standaloneSize, hi]
      dsimp only
      rw [hwidth, hheight]
    · rw [SideState.standaloneColour, hi]
      dsimp only [FrameValues.wv]
      rw [hword (by decide), hword (by decide), hword (by decide)]
    · have hkeep := takeDevelop_same (d := SideReadied d s.timeBase) (by
        rw [hsame, hwidth, hheight]
        exact hold)
      rw [hkeep, findFailed_frame]
      rfl
  all_goals
    dsimp only
    rw [hframe]
    rfl

end Sys2Proof.FrameStarts
end

section
/-! The swap of a side and the commands that make it (R61 to R66, R110, R111). -/

namespace Sys2Proof.Swapping

open Sys2Proof Sys2Proof.Machine Sys2Proof.Taking Sys2Proof.FrameStarts

/-! ## What a swap takes and limits (R49, R63, R111) -/

section
variable (d : SideState)

theorem swapValues_eq :
    let bank := d.store.bank d.store.shadow
    let used := fun w => (bank.read w).used w
    d.exchangeBanks.swapValues =
      ⟨used 0, used 1, used 687, used 703, used 704, initialIndex (bank.read 705) (some (used 703, used 704))⟩ := rfl

theorem initialIndex_some (word : TableWord) (lo hi : Nat) :
    initialIndex word (some (lo, hi)) = if word.failed then lo else word.value.toNat := by
  unfold initialIndex
  split
  · show clampInto lo hi 0 = lo
    unfold clampInto
    split
    · rfl
    · rw [if_neg (Nat.not_lt_zero hi)]
      omega
  · rfl

/-- E after a swap (R63, R111). -/
def swappedIndex (index : Option Nat) (v : SwapValues) : Nat :=
  match index with
  | some e => clampInto v.emin v.emax e
  | none => v.einit

theorem swap_index :
    d.swap.exposure = Exposure.commandLogic
      { d.exposure with
        index := some (swappedIndex d.exposure.index d.exchangeBanks.swapValues)
        limits := some (d.exchangeBanks.swapValues.emin, d.exchangeBanks.swapValues.emax) } := by
  rw [Invariants.swap_exposure, findFailed_frame]
  rfl

theorem clampInto_bounds {lo hi : Nat} (h : lo ≤ hi) (v : Nat) :
    lo ≤ clampInto lo hi v ∧ clampInto lo hi v ≤ hi ∧ (lo ≤ v → v ≤ hi → clampInto lo hi v = v) := by
  unfold clampInto
  split
  · omega
  · split <;> omega

theorem le_of_mem_clampMap {limit : Nat} {m : List Nat} {v : Nat} (h : v ∈ clampMap limit m) : v ≤ limit := by
  obtain ⟨a, -, rfl⟩ := List.mem_map.mp h
  exact min_le_left _ _

theorem le_of_mem_zeroMap {limit v : Nat} (h : v ∈ zeroMap) : v ≤ limit :=
  (List.eq_of_mem_replicate h).le.trans (Nat.zero_le _)

/-- With the frame size in use the maps are limited, and an update in flight keeps the limits (R63, R65). -/
theorem swap_same (h : d.store.frameSize = some (d.exchangeBanks.swapValues.width, d.exchangeBanks.swapValues.height)) :
    d.swap = (((d.exchangeBanks.findFailed swapWordList).clampToBank d.exchangeBanks.swapValues).limitUpdate
      ⟨d.exchangeBanks.swapValues.maxAtten, d.exchangeBanks.swapValues.emin, d.exchangeBanks.swapValues.emax⟩) := by
  rw [SideState.swap]
  exact if_pos (by rw [findFailed_frame]; exact h)

/-- Another frame size clears what depends on it and drops an update in flight (R64, R65). -/
theorem swap_other (h : d.store.frameSize ≠ some (d.exchangeBanks.swapValues.width, d.exchangeBanks.swapValues.height)) :
    d.swap = ((((d.exchangeBanks.findFailed swapWordList).clampToBank d.exchangeBanks.swapValues).clearFrameDependent
      d.exchangeBanks.swapValues.width).dropUpdate).setFrameSize d.exchangeBanks.swapValues.width
        d.exchangeBanks.swapValues.height := by
  rw [SideState.swap]
  exact if_neg (by rw [findFailed_frame]; exact h)

/-- Every map value is at most the MaxAtten taken (R63). -/
theorem swap_maps {v : Nat}
    (h : v ∈ d.swap.glare.target ++ d.swap.glare.current ++ d.swap.glare.next ++ d.swap.pipe.map) :
    v ≤ d.exchangeBanks.swapValues.maxAtten := by
  simp only [List.mem_append, or_assoc] at h
  by_cases hs : d.store.frameSize = some (d.exchangeBanks.swapValues.width, d.exchangeBanks.swapValues.height)
  · rw [swap_same d hs] at h
    rcases h with h | h | h | h <;> exact le_of_mem_clampMap h
  · rw [swap_other d hs] at h
    rcases h with h | h | h | h <;> exact le_of_mem_zeroMap h

/-- TABLE_PARITY after a swap says whether a word that it takes is failed (R62). -/
theorem swap_tableParity :
    d.swap.cond.tableParity =
      [0, 1, 687, 703, 704, 705].any fun w => ((d.store.bank d.store.shadow).read w).failed := by
  have hfound : (d.exchangeBanks.findFailed swapWordList).cond.tableParity = _ :=
    findFailed_found (d := d.exchangeBanks) (i := d.store.shadow) rfl swapWordList
  have hkeep : d.swap.cond.tableParity = (d.exchangeBanks.findFailed swapWordList).cond.tableParity := by
    unfold SideState.swap SideState.swapSize
    dsimp only
    split <;> rfl
  rw [hkeep, hfound]
  exact Bool.false_or _

end

/-! ## The commands that make the swap (R61, R214) -/

/-- The bank bookkeeping of two sides is the same. -/
def SameBanks (d e : SideState) : Prop :=
  e.store.active = d.store.active ∧ e.store.commitPending = d.store.commitPending ∧ e.cond.noTables = d.cond.noTables ∧
    e.store.bank0 = d.store.bank0 ∧ e.store.bank1 = d.store.bank1

section
variable {s : State} {x : Side} {body : List Byte}

theorem sameBanks_takeDevelop (d : SideState) : SameBanks d d.takeDevelop := by
  rw [takeDevelop_frame]
  exact ⟨rfl, rfl, rfl, rfl, rfl⟩

theorem judgeStart_sameBanks (s : State) (x : Side) (body : List Byte) :
    SameBanks (s.side x) ((judgeStart s x body).side x) := by
  cases hactive : (s.side x).store.active with
  | none =>
    rw [judgeStart_none hactive, onSide_side_same]
    exact ⟨rfl, rfl, rfl, rfl, rfl⟩
  | some i =>
    by_cases hsize : fsWidth body = (s.side x).developValues.width ∧ fsHeight body = (s.side x).developValues.height
    · obtain ⟨groups, guard, hside, -⟩ := acceptedState_side (s.onSide x SideState.takeDevelop) x (s.side x).cond
        (fsNumber body) (s.side x).developValues
      rw [judgeStart_accept hactive hsize.1 hsize.2, acceptFrame_eq, startEgress_side, hside, onSide_side_same]
      exact sameBanks_takeDevelop _
    · obtain ⟨groups, guard, hside⟩ := BankWords.settle_side s x (fun d => d.takeDevelop.rejectFormat) (s.side x).cond
      rw [judgeStart_reject hactive hsize, hside]
      exact sameBanks_takeDevelop _

theorem startStandalone_sameBanks (s : State) (x : Side) :
    SameBanks ((swapIfPending s x).side x) ((startStandalone s x).side x) := by
  obtain ⟨groups, guard, hside⟩ := startStandalone_side s x
  have hframe := takeStandalone_frame (SideReadied ((swapIfPending s x).side x) s.timeBase)
  dsimp only at hframe
  rw [hside, hframe]
  exact ⟨rfl, rfl, rfl, rfl, rfl⟩

section
variable (hcommit : (s.side x).store.commitPending = true)
include hcommit

theorem swapIfPending_eq :
    swapIfPending s x = settle (markReports (s.onSide x SideState.swap) x) x (s.side x).cond := if_pos hcommit

theorem swapIfPending_beside :
    (swapIfPending s x).besideSupervision x = (s.onSide x SideState.swap).besideSupervision x := by
  rw [swapIfPending_eq hcommit, settle_beside, markReports_beside]

theorem swapIfPending_sameBanks : SameBanks (s.side x).swap ((swapIfPending s x).side x) := by
  have hside := besideSupervision_rest (beside_side (swapIfPending_beside hcommit)).symm
  rw [onSide_side_same] at hside
  rw [hside]
  exact ⟨rfl, rfl, rfl, rfl, rfl⟩

/-- What a command that makes the swap leaves of the banks, when it changes nothing of them afterwards. -/
theorem swapped_of_sameBanks {e : SideState} (h : SameBanks ((swapIfPending s x).side x) e) :
    e.store.active = some (s.side x).store.shadow ∧ e.store.commitPending = false ∧ e.cond.noTables = false ∧
      e.store.bank0 = (s.side x).store.bank0 ∧ e.store.bank1 = (s.side x).store.bank1 := by
  obtain ⟨ha, hc, hn, h0, h1⟩ := h
  obtain ⟨ha', hc', hn', h0', h1'⟩ := swapIfPending_sameBanks hcommit
  have hswap := swap_frame (s.side x)
  refine ⟨(ha.trans ha').trans ?_, (hc.trans hc').trans ?_, (hn.trans hn').trans ?_, (h0.trans h0').trans ?_,
    (h1.trans h1').trans ?_⟩ <;> rw [hswap]

end

end

/-- Settles O35, by the four orders of a swap and the two occasions that make it. -/
theorem swapExchanges : Obligations.SwapExchanges := by
  refine ⟨fun d => ?_, fun x s hcommit => ?_⟩
  · have hswap := swap_frame d
    have hsize := Invariants.swap_frameSize d
    have hexposure := swap_index d
    have hmaps := fun v => swap_maps d (v := v)
    have hsame := swap_same d
    have hother := swap_other d
    have hvalues := swapValues_eq d
    have hparity := swap_tableParity d
    dsimp only at hvalues ⊢
    rw [hvalues] at hsize hexposure hmaps hsame hother
    dsimp only at hsize hexposure hmaps hsame hother
    refine ⟨?_, ?_, ?_, ?_, ?_, ?_, ?_, hmaps, ⟨?_, ?_, ?_⟩, fun old hold hle => ?_, hsize, fun hne => ?_, fun hs => ?_⟩
    · rw [hswap]
    · rw [hswap]
    · rw [hswap]
    · rw [hswap]
    · rw [hswap]
    · rw [hswap]
    · rw [hparity]
      exact List.any_eq_true
    · refine (congrArg Exposure.index hexposure).trans ((commandLogic_index _).trans (congrArg some ?_))
      cases d.exposure.index with
      | some old => rfl
      | none => exact initialIndex_some _ _ _
    · exact (congrArg Exposure.limits hexposure).trans (commandLogic_limits _)
    · refine hexposure.trans (congrArg (fun i => Exposure.commandLogic { d.exposure with
        index := some i
        limits := some (((d.store.bank d.store.shadow).read 703).used 703,
          ((d.store.bank d.store.shadow).read 704).used 704) }) ?_)
      cases d.exposure.index with
      | some old => rfl
      | none => exact initialIndex_some _ _ _
    · rw [hold] at hexposure
      exact ⟨_, (congrArg Exposure.index hexposure).trans (commandLogic_index _), clampInto_bounds hle old⟩
    · rw [hother hne]
      refine ⟨rfl, rfl, rfl, rfl, rfl, rfl, rfl, rfl, fun p hp => List.eq_of_mem_replicate hp, fun u hu => ?_⟩
      obtain ⟨v, -, rfl⟩ := Option.map_eq_some_iff.mp hu
      rfl
    · rw [hsame hs, findFailed_frame]
      refine ⟨rfl, rfl, fun u hu => ?_⟩
      show d.glare.update.map _ = _
      rw [hu]
      rfl
  · have hreport : ∀ y, ((swapIfPending s x).link y).report x = true := fun y => by
      rw [swapIfPending_eq hcommit]
      exact Forward.settle_keeps_report _ x x y _ (markReports_report _ x y)
    refine ⟨swapIfPending_beside hcommit, hreport, fun hfree => ⟨fun body hw hr hgood => ?_, fun hdue hsource hf => ?_⟩⟩
    · exact ⟨_, exec_cameraFrameStart_outside hfree hw hr hgood,
        swapped_of_sameBanks hcommit (judgeStart_sameBanks _ x body)⟩
    · exact ⟨_, exec_standaloneFrameStart hfree hdue hsource hf,
        swapped_of_sameBanks hcommit (startStandalone_sameBanks s x)⟩

end Sys2Proof.Swapping
end

section
/-! Lines filled and handed on while the egress line buffer has room, on any lane, and while it has none on a lane that
is sending (R9, R10, R15, R67, R174). -/

namespace Sys2Proof.Filling

open Sys2Proof Sys2Proof.Machine Sys2Proof.Receiving Sys2Proof.Forward

/-! ## The egress line buffer never gains more than the line that enters it (R174) -/

section
variable (s : State) (x : Side)

theorem nextFrameCell_buffer (l : LinkState) : l.nextFrameCell.buffer.length ≤ l.buffer.length := by
  have hdrop : ∀ {line : OutLine} {lines : List OutLine}, l.buffer = line :: lines → lines.length ≤ l.buffer.length :=
    fun h => by rw [h]; exact Nat.le_succ _
  unfold LinkState.nextFrameCell
  repeat' split
  all_goals first | exact hdrop ‹_› | exact Nat.le_refl _

theorem chooseCell_buffer (l : LinkState) : (chooseCell s l).buffer.length ≤ l.buffer.length := by
  have harb : ∀ m, arbiter s l = some m → m.buffer = l.buffer := by
    intro m hm
    unfold arbiter LinkState.sendResponse at hm
    split at hm
    · cases hm; rfl
    · split at hm
      · cases hm; rfl
      · split at hm
        · cases hm; rfl
        · cases hm
  unfold chooseCell
  split
  · exact nextFrameCell_buffer l
  · split
    · exact nextFrameCell_buffer _
    · split
      · rename_i m hm
        exact (congrArg List.length (harb m hm)).le
      · exact nextFrameCell_buffer _

theorem enterBuffer_buffer (line : OutLine) :
    ((enterBuffer s x line).link x).buffer.length ≤ (s.link x).buffer.length + 1 := by
  have hgain : ((s.link x).buffer ++ [line]).length = (s.link x).buffer.length + 1 := List.length_append
  unfold enterBuffer kick
  split
  · rw [onLink_link_same, onLink_link_same]
    exact (chooseCell_buffer _ _).trans hgain.le
  · rw [onLink_link_same]
    exact hgain.le

@[simp] theorem enterBuffer_side (line : OutLine) (y : Side) : (enterBuffer s x line).side y = s.side y :=
  besideEgress_side (enterBuffer_beside s x line) y

variable {s x}

/-- A line that finds room enters the buffer, whatever was to follow had it waited. -/
theorem deliver_of_room (line : OutLine) (after : After) (h : 0 < (s.link x).room) :
    deliver s x line after = enterBuffer s x line := if_pos ((Reception.hasRoom_iff _).mpr h)

/-- On an idle lane with its frame begun and nothing before it a line of the follow frame is sent at once (R172). -/
theorem enterBuffer_sends {f : EgressFrame} {rest : List EgressFrame} (line : OutLine) (hl : (s.link x).lane = .idle)
    (hrun : (s.link x).run = none) (hb : (s.link x).buffer = []) (hw : (s.link x).waitingStarts = [])
    (hf : (s.link x).frames = f :: rest) (hsrc : f.source = .follow) (hsent : f.sent < f.height) :
    enterBuffer s x line = s.onLink x fun l =>
      { l with lane := .sending .line line.bytes, frames := { f with sent := f.sent + 1 } :: rest } := by
  have hbuffer : (s.link x).buffer ++ [line] = [line] := by rw [hb]; rfl
  rw [enterBuffer, kick_onLink (h := fun l => { l with buffer := l.buffer ++ [line] }) hl]
  refine DisplayLinks.onLink_congr ?_
  rw [chooseCell_closed (l := { s.link x with buffer := (s.link x).buffer ++ [line] }) hrun,
    nextFrameCell_line (l := { s.link x with buffer := (s.link x).buffer ++ [line] }) hf (by
    show (s.link x).waitingStarts.length < (s.link x).frames.length
    rw [hw, hf]
    exact Nat.zero_lt_succ _) hsrc hsent hbuffer, ← hb]

/-! ## Lines filled while there is room for all of them (R10, R174) -/

/-- With room for all of them the lines are filled and none waits, on any lane. -/
theorem fillLines_all (after : Nat → After) : ∀ (count y : Nat) (s : State), (s.side x).pipe.waiting = none →
    count ≤ (s.link x).room →
    (fillLines x after count y s).side x = (s.side x).filled y count ∧
      (s.link x).room ≤ ((fillLines x after count y s).link x).room + count ∧
      ∀ after', fillLines x after' count y s = fillLines x after count y s
  | 0, y, s, _, _ => ⟨rfl, Nat.le_refl _, fun _ => rfl⟩
  | count + 1, y, s, hw, hr => by
    have hd : ∀ a, deliver (s.onSide x fun d => (d.fillLine y).1) x ((s.side x).fillLine y).2 a =
        enterBuffer (s.onSide x fun d => (d.fillLine y).1) x ((s.side x).fillLine y).2 := fun a =>
      deliver_of_room _ a (by rw [onSide_link]; omega)
    have hside := enterBuffer_side (s.onSide x fun d => (d.fillLine y).1) x ((s.side x).fillLine y).2 x
    have hbuffer := enterBuffer_buffer (s.onSide x fun d => (d.fillLine y).1) x ((s.side x).fillLine y).2
    rw [onSide_side_same, fillLine_side] at hside
    rw [onSide_link] at hbuffer
    have hnone : waits (enterBuffer (s.onSide x fun d => (d.fillLine y).1) x ((s.side x).fillLine y).2) x = false := by
      rw [waits, hside, filled_pipe, hw]
      rfl
    have hstep : ∀ after', fillLines x after' (count + 1) y s = fillLines x after' count (y + 1)
        (enterBuffer (s.onSide x fun d => (d.fillLine y).1) x ((s.side x).fillLine y).2) := fun after' => by
      rw [fillLines, hd, hnone]
      rfl
    generalize enterBuffer (s.onSide x fun d => (d.fillLine y).1) x ((s.side x).fillLine y).2 = s1 at *
    have hroom1 : (s.link x).room ≤ (s1.link x).room + 1 := by
      simp only [LinkState.room, Config.bufferLines] at hr ⊢
      omega
    obtain ⟨hside2, hroom2, hsame⟩ := fillLines_all after count (y + 1) s1 (by rw [hside, filled_pipe, hw]) (by omega)
    refine ⟨?_, ?_, fun after' => ?_⟩
    · rw [hstep, hside2, hside, filled_filled]
    · rw [hstep]
      omega
    · rw [hstep, hstep, hsame]

/-- The lines before count and line y + count are those up to y + count. -/
theorem filled_last (d : SideState) (y count : Nat) : (d.filled y count).filled (y + count) 1 = d.filled y (count + 1) := by
  have htaps : ∀ g, filledTaps d.pipe.inUse d.recv.lastGood y (count + 1) g =
      filledTaps d.pipe.inUse d.recv.lastGood (y + count) 1 (filledTaps d.pipe.inUse d.recv.lastGood y count g) :=
    fun g => by simp [filledTaps, List.range_succ]
  simp only [SideState.filled, htaps, Nat.add_assoc]

section
variable {after : Nat → After} {y stop : Nat} {finish : State → State}

/-- With room for all the lines the rest of the work is done, on any lane. -/
theorem fillThen_all (hw : (s.side x).pipe.waiting = none) (hr : stop - y ≤ (s.link x).room) :
    fillThen s x after y stop finish = finish (fillLines x after (stop - y) y s) := by
  have hn : waits (fillLines x after (stop - y) y s) x = false := by
    rw [waits, (fillLines_all after (stop - y) y s hw hr).1, filled_pipe, hw]
    rfl
  rw [fillThen, hn, if_neg Bool.false_ne_true]

/-- With no room for all the lines on a lane that is sending, the lines that find room enter the buffer, the one behind
them waits, and the rest of the work is not done. -/
theorem fillThen_waits (hl : (s.link x).lane ≠ .idle) (hw : (s.side x).pipe.waiting = none)
    (hr : (s.link x).room < stop - y) :
    fillThen s x after y stop finish =
      (s.onSide x fun d => (d.filled y ((s.link x).room + 1)).setWaiting
        (some ⟨shapeLine (s.side x).pipe.inUse (s.side x).pipe.shaping (y + (s.link x).room) (s.side x).recv.lastGood,
          after (y + (s.link x).room + 1)⟩)).onLink x fun l =>
        { l with buffer := l.buffer ++ filledLines (s.side x) y (s.link x).room } := by
  rw [fillThen_stop after y stop finish hl hw hr, State.afterFills, onLink_onSide, onSide_onSide]
  simp only [filled_last]

end

/-! ## What changes beside the delivery of the lines (R174) -/

/-- A receiver and gathering statistics of a side. -/
def lineChange (r : Receiver) (g : Gathering) (d : SideState) : SideState :=
  { d with recv := r, stats := { d.stats with gathering := g } }

/-- Nothing of the part has changed beside the receiver, the gathering statistics and the delivery of the lines. -/
def LinesOnly (x : Side) (s t : State) : Prop :=
  t.besideDelivery x =
    (s.onSide x (lineChange (t.side x).recv (t.side x).stats.gathering)).besideDelivery x

theorem besideDelivery_lineChange (s : State) (x : Side) (r : Receiver) (g : Gathering) :
    (s.onSide x (lineChange r g)).besideDelivery x = (s.besideDelivery x).onSide x (lineChange r g) := by
  cases x <;> rfl

theorem LinesOnly.trans {t u : State} (h : LinesOnly x s t) (k : LinesOnly x t u) : LinesOnly x s u := by
  unfold LinesOnly at *
  rw [k, besideDelivery_lineChange, h, besideDelivery_lineChange, besideDelivery_lineChange, onSide_onSide]
  rfl

/-- The delivery of lines of a side that has changed in its receiver and gathering statistics. -/
theorem LinesOnly.of_delivery {t : State} {f : SideState → SideState}
    (h : t.besideDelivery x = (s.onSide x f).besideDelivery x)
    (hf : f (s.side x) = lineChange (f (s.side x)).recv (f (s.side x)).stats.gathering (s.side x)) : LinesOnly x s t := by
  have hside := side_of_delivery (besideDelivery_side h)
  rw [onSide_side_same] at hside
  have hrecv : (t.side x).recv = (f (s.side x)).recv := by rw [hside]; rfl
  have hstats : (t.side x).stats = (f (s.side x)).stats := by rw [hside]; rfl
  unfold LinesOnly
  rw [h, hrecv, hstats]
  exact congrArg (State.besideDelivery · x) (Reception.onSide_congr hf)

theorem fillLines_linesOnly (after : Nat → After) (count y : Nat) (s : State) :
    LinesOnly x s (fillLines x after count y s) := by
  obtain ⟨k, -, h⟩ := fillLines_beside after count y s
  exact LinesOnly.of_delivery h rfl

theorem handLast_linesOnly {own : SideState × OutLine}
    (h : own.1 = lineChange own.1.recv own.1.stats.gathering (s.side x)) : LinesOnly x s (handLast s x own) :=
  LinesOnly.of_delivery (Reception.handLast_beside s x own) h

/-! ## A good LINE cell (R9, R10, R16) -/

theorem ownLine_side (d : SideState) (body : List Byte) :
    let good := correctLine d.pipe.inUse (lineNumber body) (linePixels body)
    (d.ownLine body).1 = lineChange
      { d.recv with
        expected := lineNumber body + 1, signature := d.recv.signature + cellCrc body, lastGood := good }
      (tapLine d.pipe.inUse (lineNumber body) good d.stats.gathering) d ∧
    (d.ownLine body).2 = shapeLine d.pipe.inUse d.pipe.shaping (lineNumber body) good := ⟨rfl, rfl⟩

theorem takeLine_good {body : List Byte} (hr : (s.side x).recv.state = .receiving) (hcrc : crcChecks 0x02 body = true)
    (hlen : lineLengthOk (s.side x).frameWidth body = true) (hn : (s.side x).recv.expected ≤ lineNumber body)
    (hk : lineNumber body < (s.side x).frameHeight) :
    takeLine s x body =
      fillThen s x (fun y => .cell y ⟨.line, body⟩) (s.side x).recv.expected (lineNumber body)
        fun s1 => handLast s1 x ((s1.side x).ownLine body) := by
  have hlast : ¬ (s.side x).frameHeight ≤ (s.side x).recv.expected := by omega
  have hout : ¬ (lineNumber body < (s.side x).recv.expected ∨ (s.side x).frameHeight ≤ lineNumber body) := by omega
  rw [takeLine, if_neg (not_not_intro hr), if_neg hlast, if_pos (by rw [hcrc, hlen]; rfl), if_neg hout]
  rfl

end

/-- Settles O17, by the room that the egress line buffer has for the filled lines and for the line itself. -/
theorem lineDeveloped : Obligations.LineDeveloped := by
  intro x body s hfree hw hr hcrc hlen hn hk d l v n k good own whole tapped
  refine ⟨_, Reception.exec_cameraLine_of_not_waiting hfree hw, ?_⟩
  rw [takeLine_good hr hcrc hlen hn hk]
  have hall := fillLines_all (x := x) (fun y => .cell y ⟨.line, body⟩) (k - n) n s hw
  have hbusy := fillLines_fit (x := x) (fun y => .cell y ⟨.line, body⟩) (k - n) n s
  have hthen := fillThen_all (s := s) (x := x) (after := fun y => .cell y ⟨.line, body⟩) (y := n) (stop := k)
    (finish := fun s1 => handLast s1 x ((s1.side x).ownLine body)) hw
  generalize hs1 : fillLines x (fun y => .cell y ⟨.line, body⟩) (k - n) n s = s1 at *
  have hown : k - n ≤ l.room → (s1.side x).ownLine body =
      (lineChange whole tapped d, own) := fun hroom => by
    rw [(hall hroom).1]
    rfl
  refine ⟨?_, fun hroom => ?_, fun hroom hl => ?_, fun hroom hl => ?_⟩
  · show LinesOnly x s _
    have hfill := fillLines_linesOnly (x := x) (fun y => .cell y ⟨.line, body⟩) (k - n) n s
    rw [hs1] at hfill
    unfold fillThen
    dsimp only
    rw [hs1]
    split
    · exact hfill
    · exact hfill.trans (handLast_linesOnly rfl)
  · have hle : k - n ≤ l.room := hroom.le
    obtain ⟨hside, hleft, -⟩ := hall hle
    have hpos : 0 < (s1.link x).room := by
      have hlt : k - n < (s.link x).room := hroom
      omega
    rw [hthen hle, hown hle]
    refine ⟨Reception.handLast_recv _ _ _, ?_, ?_, fun hl => ?_, fun f rest hl hkn hrun hb hws hf hsrc hsent => ?_⟩
    · rw [Reception.handLast_stats]
      rfl
    · rw [Reception.handLast_waiting_of_room hpos]
      exact hw
    · have hs := hbusy hl hw hle
      rw [Reception.handLast_link_of_busy hpos (by rw [hs, afterFills_link]; exact hl), hs, afterFills_link]
      exact ⟨rfl, rfl⟩
    · have hzero : k - n = 0 := by omega
      have hs : s1 = s := by rw [← hs1, hzero, fillLines]
      rw [hs] at hpos ⊢
      rw [Reception.handLast_of_room hpos, enterBuffer_sends own (f := f) (rest := rest) (by rw [onSide_link]; exact hl)
        (by rw [onSide_link]; exact hrun) (by rw [onSide_link]; exact hb) (by rw [onSide_link]; exact hws)
        (by rw [onSide_link]; exact hf) hsrc hsent, onLink_link_same, onSide_link]
      exact ⟨rfl, hb, rfl⟩
  · have hle : k - n ≤ l.room := hroom.le
    have hs := hbusy hl hw hle
    have hfull : (s1.link x).room = 0 := by
      have hsum : k - n = (s.link x).room := hroom
      rw [hs, afterFills_link]
      simp only [LinkState.room, Config.bufferLines, List.length_append, filledLines, List.length_map,
        List.length_range] at hsum ⊢
      omega
    rw [hthen hle, hown hle, Reception.handLast_of_full hfull, onSide_side_same, onSide_link, hs, afterFills_link]
    refine ⟨rfl, rfl, rfl, rfl, ?_⟩
    show _ ++ filledLines d n (k - n) = _ ++ filledLines d n l.room
    rw [hroom]
  · rw [fillThen_waits hl hw hroom, onLink_side, onSide_side_same, onLink_link_same, onSide_link]
    exact ⟨rfl, rfl, rfl, rfl, rfl⟩

end Sys2Proof.Filling
end

section
/-! The end of a frame, by a FRAME END, by a FRAME START in its place and by the expiry of the frame timeout (R4, R17 to
R21, R33 to R36, R91, R93, R110, R112, R124, R160, R165, R174, R215). -/

namespace Sys2Proof.FrameEnds

open Sys2Proof Sys2Proof.Machine Sys2Proof.Guarding Sys2Proof.BankWords Sys2Proof.Taking Sys2Proof.Forward
  Sys2Proof.FrameStarts Sys2Proof.Receiving Sys2Proof.Filling

/-! ## The words of an update (R49, R93) -/

/-- The words of WEIGHT, GLARE and EXPOSE are the bank words 491 to 705. -/
theorem updateWordList_eq : updateWordList = (List.range 215).map fun w => 491 + w := by
  have hrange : ∀ a n : Nat, (List.range n).map (a + ·) = List.range' a n := fun a n => List.range'_eq_map_range.symm
  rw [updateWordList, weightWordList, glareWordList, exposeWordList, hrange, hrange, hrange]
  refine Eq.trans ?_ (hrange 491 215).symm
  rw [List.range'_append_1, List.range'_append_1]

theorem take_map (d : SideState) (n a : Nat) :
    d.take ((List.range n).map (a + ·)) =
      (List.range n).map fun k => (d.store.activeBank.read (a + k)).used (a + k) := by
  rw [SideState.take, takenValues, List.map_map]
  rfl

theorem exposeWord_take (d : SideState) {i : Nat} (h : i < 7) :
    exposeWord (d.take exposeWordList) i = (d.store.activeBank.read (699 + i)).used (699 + i) := by
  rw [exposeWordList, take_map, exposeWord, Arithmetic.getD_map_range _ _ h]

/-! ## The frame-end processing of a side (R18 to R20, R91) -/

section
variable (d : SideState)

/-- The receiver after the frame-end processing (R19, R20). -/
def closedRecv : Receiver :=
  { d.recv with
    state := .waitStart, freeze := d.recv.freezeNext, prevSignature := some d.recv.signature
    prevFrame := some d.recv.frameNumber }

/-- The conditions that the frame-end processing judges (R18, R19). -/
def closedCond : Conditions :=
  { d.cond with
    lineCrc := decide (d.settings.crcMax < d.recv.damaged)
    lineMissing := decide (d.settings.missingMax < d.recv.missing)
    frozen := decide (d.settings.freezeFrames ≤ d.recv.freezeNext) }

/-- With an update in flight the statistics are discarded (R91). -/
theorem closeFrame_inFlight {u : Update} (h : d.glare.update = some u) :
    d.closeFrame =
      { d with recv := closedRecv d, cond := closedCond d, stats := { d.stats with gathering := .empty } } := by
  have hu : d.judgeCounts.judgeFreeze.glare.update = some u := h
  rw [SideState.closeFrame, SideState.completedEnd, hu]
  rfl

/-- With no update in flight the statistics are published and an update starts (R91, R93, R110). -/
theorem closeFrame_starts (h : d.glare.update = none) :
    ∃ p c, d.closeFrame =
      { d with
        recv := closedRecv d, cond := { closedCond d with tableParity := c }, store := { d.store with parity := p }
        stats := ⟨.empty, ⟨true, d.recv.frameNumber, d.frameWidth, d.frameHeight, d.stats.gathering.tiles⟩⟩
        glare := { d.glare with update := some d.newUpdate }
        exposure := { d.exposure with
          limits := some (exposeWord (d.take exposeWordList) 4, exposeWord (d.take exposeWordList) 5) } } ∧
      ∀ i, d.store.active = some i → p = d.store.parity.found i (d.store.bank i) updateWordList ∧
        c = (d.cond.tableParity || updateWordList.any fun w => ((d.store.bank i).read w).failed) := by
  have hu : d.judgeCounts.judgeFreeze.glare.update = none := h
  let e : SideState :=
    { d.judgeCounts.judgeFreeze with
      stats := ⟨.empty, ⟨true, d.recv.frameNumber, d.frameWidth, d.frameHeight, d.stats.gathering.tiles⟩⟩ }
  have hclose : d.closeFrame = e.startUpdate.setRecv .waitStart := by
    rw [SideState.closeFrame, SideState.completedEnd, hu]
    rfl
  refine ⟨(e.findFailed updateWordList).store.parity, (e.findFailed updateWordList).cond.tableParity, ?_,
    fun i hi => ⟨findFailed_parity (d := e) hi _, findFailed_found (d := e) hi _⟩⟩
  rw [hclose, SideState.startUpdate]
  dsimp only
  rw [findFailed_frame]
  rfl

/-- What the frame-end processing does whether an update is in flight or not. -/
theorem closeFrame_common :
    d.closeFrame.recv = closedRecv d ∧ d.closeFrame.pipe = d.pipe ∧
      d.closeFrame.cond = { closedCond d with tableParity := d.closeFrame.cond.tableParity } ∧
      d.closeFrame.stats.gathering = .empty := by
  cases hu : d.glare.update with
  | some u =>
    rw [closeFrame_inFlight d hu]
    exact ⟨rfl, rfl, rfl, rfl⟩
  | none =>
    obtain ⟨p, c, hstarts, -⟩ := closeFrame_starts d hu
    rw [hstarts]
    exact ⟨rfl, rfl, rfl, rfl⟩

theorem freezeNext_eq (r : Receiver) :
    r.freezeNext =
      if r.prevSignature = some r.signature ∨ r.prevFrame = some r.frameNumber then min 255 (r.freeze + 1) else 0 := by
  rw [Receiver.freezeNext, Receiver.repeats, satAdd]
  simp only [Bool.or_eq_true, decide_eq_true_eq]

end

section
variable (s : State) (x : Side)

theorem guardFrameEnd_side :
    (guardFrameEnd s x).side x = { s.side x with guard := (s.side x).guard.counted } := by
  rw [← guardFrameEnd_guard, besideSupervision_rest (beside_side (guardFrameEnd_beside s x)).symm, guardFrameEnd_groups]

/-- The part after the frame-end processing, before the FRAME END is handed over. -/
def judgedEnd : State := guardFrameEnd (settle (s.onSide x SideState.closeFrame) x (s.side x).cond) x

theorem endFrame_eq : endFrame s x = handFollowEnd (judgedEnd s x) x := rfl

theorem handFollowEnd_side (y : Side) : (handFollowEnd s x).side y = s.side y :=
  besideEgress_side (handFollowEnd_beside s x) y

/-- The side after the end of a frame; the guard counts down when the conditions are left alone (R160). -/
theorem endFrame_side :
    ∃ groups guard, (endFrame s x).side x = { (s.side x).closeFrame with groups := groups, guard := guard } ∧
      ((s.side x).closeFrame.cond = (s.side x).cond → guard = (s.side x).guard.counted) := by
  obtain ⟨groups, guard, h⟩ := settle_side s x SideState.closeFrame (s.side x).cond
  refine ⟨groups, guard.counted, ?_, fun hc => ?_⟩
  · rw [endFrame_eq, handFollowEnd_side, judgedEnd, guardFrameEnd_side, h]
  · have hguard := congrArg SideState.guard h
    rw [Records.settle_of_cond (by rw [onSide_side_same, hc]), onSide_side_same] at hguard
    have hclose : (s.side x).closeFrame.guard = (s.side x).guard := by
      cases hu : (s.side x).glare.update with
      | some u => rw [closeFrame_inFlight _ hu]
      | none =>
        obtain ⟨p, c, hstarts, -⟩ := closeFrame_starts _ hu
        rw [hstarts]
    rw [← hclose]
    exact congrArg Guard.counted hguard.symm

theorem judgedEnd_link :
    ∃ a b, (judgedEnd s x).link x = { s.link x with reportA := a, reportB := b } := by
  obtain ⟨a, b, h⟩ := Invariants.beside_link ((guardFrameEnd_beside (settle (s.onSide x SideState.closeFrame) x
    (s.side x).cond) x).trans (settle_beside (s.onSide x SideState.closeFrame) x (s.side x).cond)) x
  rw [onSide_link] at h
  exact ⟨a, b, h⟩

/-- On a lane that is sending, the FRAME END handed over waits for its frame (R175). -/
theorem handFollowEnd_busy {s : State} (hl : (s.link x).lane ≠ .idle) :
    (handFollowEnd s x).link x = (s.link x).handEnd .follow := by
  rw [handFollowEnd, kick_busy _ x (by rw [onLink_link_same]; exact hl), onLink_link_same]

theorem endFrame_link_busy {s : State} (hl : (s.link x).lane ≠ .idle) :
    ((endFrame s x).link x).lane = (s.link x).lane ∧ ((endFrame s x).link x).buffer = (s.link x).buffer ∧
      ((endFrame s x).link x).frames = ((s.link x).handEnd .follow).frames := by
  obtain ⟨a, b, h⟩ := judgedEnd_link s x
  rw [endFrame_eq, handFollowEnd_busy x (by rw [h]; exact hl), h]
  exact ⟨rfl, rfl, rfl⟩

/-- With nothing before it the FRAME END is sent at once (R172, R175). -/
theorem endFrame_link_idle {s : State} {f : EgressFrame} (hl : (s.link x).lane = .idle) (hrun : (s.link x).run = none)
    (hw : (s.link x).waitingStarts = []) (hf : (s.link x).frames = [f]) (hsrc : f.source = .follow)
    (hsent : f.height ≤ f.sent) : ((endFrame s x).link x).lane = .sending .frameEnd frameEndCell := by
  obtain ⟨a, b, h⟩ := judgedEnd_link s x
  have hended : ((judgedEnd s x).link x |>.handEnd .follow).frames = [{ f with ended := true }] := by
    rw [h, LinkState.handEnd, hf]
    show [if f.source = .follow then { f with ended := true } else f] = _
    rw [if_pos hsrc]
  rw [endFrame_eq, handFollowEnd, kick_onLink (by rw [h]; exact hl), onLink_link_same,
    chooseCell_closed (l := ((judgedEnd s x).link x).handEnd .follow) (by rw [h]; exact hrun),
    nextFrameCell_end (f := { f with ended := true }) (rest := []) hended (by
      rw [hended, h]
      show (s.link x).waitingStarts.length < 1
      rw [hw]
      exact Nat.zero_lt_one) (.inr ⟨hsrc, rfl, hsent⟩)]
  rfl

theorem endFrame_resetHeld : (endFrame s x).resetHeld = s.resetHeld := by
  rw [endFrame_eq, besideEgress_resetHeld (handFollowEnd_beside _ x), judgedEnd,
    beside_resetHeld (guardFrameEnd_beside _ x),
    beside_resetHeld (settle_beside _ x _), onSide_resetHeld]

end

/-! ## A FRAME END, and a FRAME START in its place (R4, R17) -/

section
variable {s : State} {x : Side} {body : List Byte}

theorem exec_cameraFrameEnd (hfree : s.resetHeld = false) (hw : (s.side x).pipe.waiting = none) :
    exec (.cameraFrameEnd x body) s = .next (takeFrameEnd s x body) := by
  have hexec : exec (.cameraFrameEnd x body) s = .next (arrive s x ⟨.frameEnd, body⟩) := exec_unheld hfree
  rw [hexec, Reception.arrive_of_not_waiting _ hw]
  rfl

theorem takeFrameEnd_receiving (hgood : cellGood 0x03 3 body = true) (hr : (s.side x).recv.state = .receiving) :
    takeFrameEnd s x body =
      fillThen s x (fun y => .cell y ⟨.frameEnd, body⟩) (s.side x).recv.expected (s.side x).frameHeight
        fun s1 => endFrame s1 x := by
  rw [takeFrameEnd, if_pos hgood, hr]
  rfl

theorem exec_cameraFrameStart_receiving (hfree : s.resetHeld = false) (hw : (s.side x).pipe.waiting = none)
    (hgood : cellGood 0x01 8 body = true) (hr : (s.side x).recv.state = .receiving) :
    exec (.cameraFrameStart x body) s =
      .next (fillThen s x (fun y => .cell y ⟨.frameStart, body⟩) (s.side x).recv.expected (s.side x).frameHeight
        fun s1 => judgeStart (swapIfPending (endFrame s1 x) x) x body) := by
  rw [Reception.exec_cameraFrameStart_of_not_waiting hw, exec_unheld hfree, takeFrameStart, if_pos hgood, if_pos hr]
  rfl

theorem fillLines_resetHeld (after : Nat → After) (count y : Nat) (s : State) (x : Side) :
    (fillLines x after count y s).resetHeld = s.resetHeld := by
  obtain ⟨k, -, h⟩ := fillLines_beside (x := x) after count y s
  have hheld := congrArg State.resetHeld h
  cases x <;> exact hheld

end

/-- Settles O19, by the receiver state and the room that the egress line buffer has. -/
theorem frameEndProcessed : Obligations.FrameEndProcessed := by
  intro x body s hfree hw
  rw [exec_cameraFrameEnd hfree hw]
  refine ⟨fun h => ?_, fun hgood hr => ?_, fun hgood hr => ?_⟩
  · rw [takeFrameEnd]
    split
    · rename_i hgood
      have hstart := h.resolve_left (by rw [hgood]; exact Bool.noConfusion)
      rw [hstart]
    · rfl
  · rw [takeFrameEnd, if_pos hgood, hr]
    rfl
  rw [takeFrameEnd_receiving hgood hr]
  intro d l r total
  have houtcome := fillLines_outcome (x := x) (fun y => .cell y ⟨.frameEnd, body⟩) total r.expected s hw
  refine ⟨_, rfl, fun y hy => ?_, fun hroom => ?_, fun hroom hl =>
    ⟨(fillThen_waits hl hw hroom).trans (congrArg (State.onLink · x _) (Reception.onSide_congr rfl)),
      fun start hstart => ?_⟩⟩
  · obtain ⟨k, -, w, -, hapart, -⟩ := houtcome
    unfold fillThen
    dsimp only
    split
    · exact hapart y hy
    · exact ((endFrame_recv _ x).1 y hy).trans (hapart y hy)
  · obtain ⟨hside, -, hsame⟩ := fillLines_all (x := x) (fun y => .cell y ⟨.frameEnd, body⟩) total r.expected s hw hroom
    have hbusy := fillLines_fit (x := x) (fun y => .cell y ⟨.frameEnd, body⟩) total r.expected s
    have hidle : total = 0 → fillLines x (fun y => .cell y ⟨.frameEnd, body⟩) total r.expected s = s := fun h => by
      rw [h, fillLines]
    have hheld := fillLines_resetHeld (fun y => .cell y ⟨.frameEnd, body⟩) total r.expected s x
    rw [fillThen_all hw hroom]
    have hstart : ∀ start, cellGood 0x01 8 start = true → exec (.cameraFrameStart x start) s =
        .next (judgeStart (swapIfPending (endFrame (fillLines x (fun y => .cell y ⟨.frameEnd, body⟩) total r.expected s)
          x) x) x start) := fun start hgood => by
      rw [exec_cameraFrameStart_receiving hfree hw hgood hr, fillThen_all hw hroom, hsame]
    generalize fillLines x (fun y => .cell y ⟨.frameEnd, body⟩) total r.expected s = s1 at *
    obtain ⟨groups, guard, hend, hcounted⟩ := endFrame_side s1 x
    rw [hside] at hend hcounted
    obtain ⟨hrecv, hpipe, hcond, hgathering⟩ := closeFrame_common (d.filled r.expected total)
    have hwaiting : ((endFrame s1 x).side x).pipe.waiting = none := by
      rw [hend]
      exact (congrArg Pipeline.waiting hpipe).trans hw
    have htable : ((endFrame s1 x).side x).cond.tableParity =
        (d.filled r.expected total).closeFrame.cond.tableParity := by rw [hend]
    refine ⟨?_, hwaiting, ?_, ?_, fun i hi => activeBank_of_active hi, fun i hi hnone => ?_, fun hsome => ?_,
      fun hnone => ?_, fun hc => ?_, fun hl => ?_, fun f hl hrun hws hf hsrc hsent hzero => ?_, fun start hgood => ?_⟩
    · rw [hend, ← freezeNext_eq]
      exact hrecv
    · rw [htable, hend, ← freezeNext_eq]
      exact hcond
    · rw [hend]
      exact hgathering
    · obtain ⟨p, c, hstarts, hfound⟩ := closeFrame_starts (d.filled r.expected total) hnone
      obtain ⟨hp, hc⟩ := hfound i hi
      rw [← updateWordList_eq, hend, hstarts]
      exact ⟨hc, hp⟩
    · obtain ⟨u, hu⟩ := Option.isSome_iff_exists.mp hsome
      have hflight := closeFrame_inFlight (d.filled r.expected total) hu
      rw [hend, hflight]
      exact ⟨rfl, rfl, rfl, rfl⟩
    · obtain ⟨p, c, hstarts, -⟩ := closeFrame_starts (d.filled r.expected total) hnone
      have hnew : (d.filled r.expected total).newUpdate = _ := rfl
      rw [hend, hstarts, exposeWord_take _ (by decide), exposeWord_take _ (by decide)]
      refine ⟨rfl, ?_, rfl⟩
      dsimp only
      rw [SideState.newUpdate, weightWordList, glareWordList, exposeWordList, take_map, take_map, take_map]
      rfl
    · have hkept := hcounted (by rw [hend] at hc; exact hc)
      rw [hend]
      exact hkept
    · have hs := hbusy hl hw hroom
      obtain ⟨hlane, hbuffer, hframes⟩ := endFrame_link_busy x (s := s1) (by rw [hs, afterFills_link]; exact hl)
      rw [hlane, hbuffer, hframes, hs, afterFills_link]
      exact ⟨rfl, rfl, rfl⟩
    · have hs := hidle hzero
      exact endFrame_link_idle x (by rw [hs]; exact hl) (by rw [hs]; exact hrun) (by rw [hs]; exact hws)
        (by rw [hs]; exact hf) hsrc hsent
    · have hstate : ((endFrame s1 x).side x).recv.state ≠ .receiving := by
        rw [(endFrame_recv s1 x).2.1]
        exact RecvState.noConfusion
      rw [hstart start hgood, exec_cameraFrameStart_outside ((endFrame_resetHeld s1 x).trans (hheld.trans hfree)) hwaiting
        hstate hgood]
  · rw [exec_cameraFrameStart_receiving hfree hw hstart hr, fillThen_waits hl hw hroom, fillThen_waits hl hw hroom,
      onLink_onSide, onSide_onSide]
    rfl

/-! ## The expiry of the frame timeout (R21, R34, R215) -/

section
variable {s : State} {x : Side}

theorem exec_frameTimeoutExpiry (hfree : s.resetHeld = false) (hw : (s.side x).pipe.waiting = none) :
    exec (.frameTimeoutExpiry x) s =
      if frameTimeoutDue s x = true then .next (expireFrameTimeout s x) else .next s := by
  have hexec : exec (.frameTimeoutExpiry x) s = execFrameTimeoutExpiry x s := rfl
  have hwaits : waits s x = false := by rw [waits, hw]; rfl
  rw [hexec, execFrameTimeoutExpiry, exec_unheld hfree, frameTimeoutEnabled, hwaits, Bool.not_false, Bool.and_true]

theorem linkLost_side (s : State) (x : Side) :
    ∃ groups guard, (linkLost s x).side x =
      SideState.goStandalone { (s.side x).loseLink with groups := groups, guard := guard } := by
  obtain ⟨groups, guard, h⟩ := settle_side s x SideState.loseLink (s.side x).cond
  exact ⟨groups, guard, by rw [linkLost, onSide_side_same, h]⟩

theorem linkLost_link (s : State) (x y : Side) :
    ∃ a b, (linkLost s x).link y = { s.link y with reportA := a, reportB := b } := by
  obtain ⟨a, b, h⟩ := Invariants.beside_link (settle_beside (s.onSide x SideState.loseLink) x (s.side x).cond) y
  rw [onSide_link] at h
  exact ⟨a, b, by rw [linkLost, onSide_link, h]⟩

theorem endAbandoned_side (s : State) (x : Side) :
    (endAbandoned s x).side x = (s.side x).discardGathering.setRecv .waitStart := by
  rw [besideEgress_side (endAbandoned_beside s x), onSide_side_same]

theorem endAbandoned_link_busy (hl : (s.link x).lane ≠ .idle) :
    (endAbandoned s x).link x = (s.link x).handEnd .follow := by
  rw [endAbandoned, handFollowEnd_busy x (by rw [onSide_link]; exact hl), onSide_link]

/-- What a frame timeout that expires leaves of its side and link when no line has to wait: n lines have been filled and
the frame in progress has been abandoned (R21), and the link is lost (R35, R124). -/
theorem linkLost_abandoned (s : State) (x : Side) :
    let d := s.side x
    let e := (linkLost (endAbandoned s x) x).side x
    e.cond = { d.cond with linkLoss := true, cameraNoAck := false } ∧
      e.frameTimer = none ∧ e.source = .standalone ∧ e.standaloneDue = true ∧
      e.timing = { d.timing with reference := none, divider := 0 } ∧
      e.exposure = { d.exposure with slot := .empty, last := none } ∧
      e.stats.published = d.stats.published ∧ e.glare = d.glare ∧ e.pipe = d.pipe ∧
      e.recv = { d.recv with state := .waitStart } ∧ e.stats.gathering = .empty := by
  obtain ⟨groups, guard, h⟩ := linkLost_side (endAbandoned s x) x
  dsimp only
  rw [h, endAbandoned_side]
  exact ⟨rfl, rfl, rfl, rfl, rfl, rfl, rfl, rfl, rfl, rfl, rfl⟩

/-- The same with no frame in progress. -/
theorem linkLost_outside (s : State) (x : Side) :
    let d := s.side x
    let e := (linkLost s x).side x
    e.cond = { d.cond with linkLoss := true, cameraNoAck := false } ∧
      e.frameTimer = none ∧ e.source = .standalone ∧ e.standaloneDue = true ∧
      e.timing = { d.timing with reference := none, divider := 0 } ∧
      e.exposure = { d.exposure with slot := .empty, last := none } ∧
      e.stats.published = d.stats.published ∧ e.glare = d.glare ∧ e.pipe = d.pipe ∧
      e.recv = d.recv ∧ e.stats = d.stats := by
  obtain ⟨groups, guard, h⟩ := linkLost_side s x
  dsimp only
  rw [h]
  exact ⟨rfl, rfl, rfl, rfl, rfl, rfl, rfl, rfl, rfl, rfl, rfl⟩

end

/-- Settles O23, by whether a frame is in progress and whether a line of it has to wait. -/
theorem frameTimeoutExpires : Obligations.FrameTimeoutExpires := by
  intro x s hfree hw
  rw [exec_frameTimeoutExpiry hfree hw]
  refine ⟨fun hdue => ?_, fun hnot => if_neg (Bool.eq_false_iff.mp hnot)⟩
  rw [if_pos hdue]
  refine ⟨_, rfl, ?_⟩
  by_cases hr : (s.side x).recv.state = .receiving
  · have hexpire : expireFrameTimeout s x = fillThen s x .expiry (s.side x).recv.expected (s.side x).frameHeight
        fun s1 => linkLost (endAbandoned s1 x) x := if_pos hr
    rw [hexpire]
    intro d e l n total
    obtain ⟨k, hk, w, hside, hapart, hend⟩ := fillLines_outcome (x := x) .expiry total n s hw
    have hbeside := fillLines_beside (x := x) .expiry total n s
    have hbusy := fillLines_fit (x := x) .expiry total n s
    have hall := fillThen_all (s := s) (x := x) (after := .expiry) (y := n) (stop := d.frameHeight)
      (finish := fun s1 => linkLost (endAbandoned s1 x) x) hw
    have hwaits := fillThen_waits (s := s) (x := x) (after := .expiry) (y := n) (stop := d.frameHeight)
      (finish := fun s1 => linkLost (endAbandoned s1 x) x)
    have ht : fillThen s x .expiry (s.side x).recv.expected (s.side x).frameHeight
        (fun s1 => linkLost (endAbandoned s1 x) x) =
        if waits (fillLines x .expiry total n s) x = true then fillLines x .expiry total n s
        else linkLost (endAbandoned (fillLines x .expiry total n s) x) x := rfl
    have hwaiting : ((fillLines x .expiry total n s).side x).pipe.waiting = w := by rw [hside, setWaiting_waiting]
    rcases hend with ⟨rfl, rfl⟩ | ⟨line, rfl⟩
    · have hdone := ht.trans (if_neg (by rw [waits, hwaiting]; exact Bool.false_ne_true))
      obtain ⟨hcond, htimer, hsource, hdue, htiming, hexposure, hpublished, hglare, hpipe, hrecv, hgathering⟩ :=
        linkLost_abandoned (fillLines x .expiry total n s) x
      rw [← hdone] at hcond htimer hsource hdue htiming hexposure hpublished hglare hpipe hrecv hgathering
      rw [hside] at hcond htiming hexposure hpublished hglare hpipe hrecv
      have hnone : e.pipe.waiting = none := congrArg Pipeline.waiting hpipe
      have hkept : e.pipe = d.pipe := hpipe.trans (by rw [← hw]; rfl)
      refine ⟨fun y hy => ?_, fun _ => hnone, fun _ => ⟨hcond, htimer, hsource, hdue, htiming, hexposure, hpublished,
        hglare, hkept, fun hn => absurd hr hn, fun _ => ⟨hrecv, hgathering, fun hl => ?_⟩⟩, fun hsome => ?_,
        fun _ hroom hl => (hwaits hl hw hroom).trans (congrArg (State.onLink · x _) (Reception.onSide_congr rfl))⟩
      · rw [hdone]
        exact ((linkLost_recv _ x).1 y hy).trans (((endAbandoned_recv _ x).1 y hy).trans (hapart y hy))
      · have hfits : total ≤ l.room := by
          by_contra hroom
          have hstop := fillLines_stop (x := x) .expiry total n s hl hw (Nat.not_le.mp hroom)
          rw [hstop, onSide_side_same] at hwaiting
          cases hwaiting
        have hs := hbusy hl hw hfits
        obtain ⟨a, b, hlink⟩ := linkLost_link (endAbandoned (fillLines x .expiry total n s) x) x x
        rw [hdone, hlink, endAbandoned_link_busy (by rw [hs, afterFills_link]; exact hl), hs, afterFills_link]
        exact ⟨rfl, rfl, rfl⟩
      · rw [hnone] at hsome
        cases hsome
    · have hstopped := ht.trans (if_pos (by rw [waits, hwaiting]; rfl))
      have hsome : e.pipe.waiting = some ⟨line, .expiry (n + k)⟩ := by
        show (State.side _ x).pipe.waiting = _
        rw [hstopped]
        exact hwaiting
      refine ⟨fun y hy => ?_, fun h => ?_, fun hnone => ?_, fun _ => ?_,
        fun _ hroom hl => (hwaits hl hw hroom).trans (congrArg (State.onLink · x _) (Reception.onSide_congr rfl))⟩
      · rw [hstopped]
        exact hapart y hy
      · have hfit := (fillLines_all (x := x) .expiry total n s hw (h.resolve_left (not_not_intro hr))).1
        rw [hfit, filled_pipe, hw] at hwaiting
        cases hwaiting
      · rw [hsome] at hnone
        cases hnone
      · obtain ⟨j, -, hj⟩ := hbeside
        have hfilled := side_of_delivery (besideDelivery_side hj)
        rw [onSide_side_same] at hfilled
        have he : e = ((s.side x).filled n j).setWaiting ((fillLines x .expiry total n s).side x).pipe.waiting := by
          show State.side _ x = _
          rw [hstopped]
          exact hfilled
        rw [he, hstopped, hj]
        exact congrArg (State.besideDelivery · x) (Reception.onSide_congr rfl)
  · have hexpire : expireFrameTimeout s x = linkLost s x := if_neg hr
    rw [hexpire]
    intro d e l n total
    obtain ⟨hapart, -, -⟩ := linkLost_recv s x
    obtain ⟨hcond, htimer, hsource, hdue, htiming, hexposure, hpublished, hglare, hpipe, hrecv, hstats⟩ :=
      linkLost_outside s x
    have hnone : e.pipe.waiting = none := (congrArg Pipeline.waiting hpipe).trans hw
    refine ⟨hapart, fun _ => hnone, fun _ => ⟨hcond, htimer, hsource, hdue, htiming, hexposure, hpublished, hglare, hpipe,
      fun _ => ⟨hrecv, hstats⟩, fun hrecv => absurd hrecv hr⟩, fun hsome => ?_, fun hrecv => absurd hrecv hr⟩
    rw [hnone] at hsome
    cases hsome

end Sys2Proof.FrameEnds
end

section
/-! The delivery of a waiting line (R174): the line joins the egress line buffer, and the handling it belongs to goes on
by the lines that the buffer takes (R10, R17, R21, R67, R77, R88). -/

namespace Sys2Proof.Delivering

open Sys2Proof Sys2Proof.Machine Sys2Proof.Receiving Sys2Proof.Filling Sys2Proof.BankWords

section
variable {s : State} {x : Side} {line : OutLine} {after : After}

theorem deliverWaiting_side (s : State) (x : Side) (line : OutLine) (y : Side) :
    (deliverWaiting s x line).side y = (s.onSide x (·.setWaiting none)).side y := enterBuffer_side _ x line y

theorem deliverWaiting_side_same (s : State) (x : Side) (line : OutLine) :
    (deliverWaiting s x line).side x = (s.side x).setWaiting none := by rw [deliverWaiting_side, onSide_side_same]

theorem deliverWaiting_busy (line : OutLine) (hl : (s.link x).lane ≠ .idle) :
    deliverWaiting s x line =
      (s.onSide x (·.setWaiting none)).onLink x fun l => { l with buffer := l.buffer ++ [line] } :=
  enterBuffer_busy _ x line (by rwa [onSide_link])

/-- What a delivery does when its line waits and the buffer has room: the line joins the buffer and the handling goes on
(R174). -/
theorem exec_delivery (hfree : s.resetHeld = false) (hw : (s.side x).pipe.waiting = some ⟨line, after⟩)
    (hroom : (s.link x).buffer.length < 4) :
    exec (.deferredLineDelivery x) s = .next (deliverAndGoOn s x ⟨line, after⟩) := by
  have hhas : (s.link x).hasRoom = true := decide_eq_true hroom
  have hexec : exec (.deferredLineDelivery x) s = execDeferredLineDelivery x s := rfl
  rw [hexec, execDeferredLineDelivery, exec_unheld hfree, hw]
  exact if_pos hhas

/-- With no line waiting or no room nothing happens (log 1). -/
theorem exec_delivery_refused (hfree : s.resetHeld = false)
    (h : (s.side x).pipe.waiting = none ∨ 4 ≤ (s.link x).buffer.length) :
    exec (.deferredLineDelivery x) s = .next s := by
  have hexec : exec (.deferredLineDelivery x) s = execDeferredLineDelivery x s := rfl
  rw [hexec, execDeferredLineDelivery, exec_unheld hfree]
  cases hw : (s.side x).pipe.waiting with
  | none => rfl
  | some w =>
    have hfull : ¬ (s.link x).hasRoom = true := by
      rcases h with h | h
      · rw [hw] at h
        cases h
      · rw [LinkState.hasRoom, decide_eq_true_eq]
        exact Nat.not_lt.mpr h
    exact if_neg hfull

/-- With no further line that waits, what the line leaves to be done has been done, and its handling completes. -/
theorem deliverAndGoOn_done {t : State} (hres : resume (deliverWaiting s x line) x after = t)
    (hw : (t.side x).pipe.waiting = none) : deliverAndGoOn s x ⟨line, after⟩ = finishHandling t x after := by
  rw [deliverAndGoOn, hres]
  exact if_neg (by rw [waits, hw]; exact Bool.false_ne_true)

/-- When the next line of a handling waits, the delivery ends with it. -/
theorem deliverAndGoOn_waits {t : State} (hres : resume (deliverWaiting s x line) x after = t)
    (hw : (t.side x).pipe.waiting.isSome = true) : deliverAndGoOn s x ⟨line, after⟩ = t := by
  rw [deliverAndGoOn, hres]
  exact if_pos hw

end

section
variable {s : State} {x : Side}

/-- The kind byte of a SIDE RESTART. -/
theorem requestKind_sideRestart_iff (r : Request) : r.requestKind = .sideRestart ↔ r.kind = 0x0C := by
  refine ⟨fun h => ?_, fun h => Requests.requestKind_of_kind h .sideRestart rfl⟩
  refine BitVec.eq_of_toNat_eq ?_
  unfold Request.requestKind at h
  split at h <;> cases h
  assumption

theorem restartAtHead_of_head {z : Side} {r : Request} (h : (s.link z).requests.head? = some r) :
    restartAtHead s x z = if r.requestKind = .sideRestart ∧ r.names = some x then [.sideRestart z] else [] := by
  obtain ⟨rest, hrequests⟩ : ∃ rest, (s.link z).requests = r :: rest := List.head?_eq_some_iff.mp h
  simp only [restartAtHead, hrequests, requestKind_sideRestart_iff]

theorem restartAtHead_congr {t : State} {z : Side} (h : (t.link z).requests = (s.link z).requests) :
    restartAtHead t x z = restartAtHead s x z := by
  simp only [restartAtHead, h]

/-- The delivery of lines takes no request. -/
theorem requests_of_delivery {t : State} (h : t.besideDelivery x = s.besideDelivery x) (z : Side) :
    (t.link z).requests = (s.link z).requests := by
  have hkeeps : ∀ u : State, ((u.besideDelivery x).link z).requests = (u.link z).requests := fun u => by
    rw [State.besideDelivery, onSide_link]
    exact Invariants.onLink_forall (P := fun l m => m.requests = l.requests) (fun _ => rfl) rfl z
  rw [← hkeeps t, h, hkeeps s]

theorem timeBase_of_delivery {t : State} (h : t.besideDelivery x = s.besideDelivery x) : t.timeBase = s.timeBase := by
  have hkeeps : ∀ u : State, (u.besideDelivery x).timeBase = u.timeBase := fun u => by cases x <;> rfl
  rw [← hkeeps t, h, hkeeps s]

/-- With no SIDE RESTART of the side at the head of a link's request queue none is taken from it. -/
theorem takeWaitingRestart_none {z : Side} (h : restartAtHead s x z = []) : takeWaitingRestart s x z = s := by
  unfold takeWaitingRestart
  split
  · rfl
  · rename_i r hhead
    obtain ⟨⟨-, -, -, hfirst⟩, hkind⟩ := Invariants.canTake_of_headOf hhead
    refine if_neg fun ⟨hnames, _⟩ => ?_
    rw [restartAtHead_of_head hfirst, if_pos ⟨hkind, hnames⟩] at h
    cases h

/-- A change of a side that leaves it as it was changes nothing. -/
theorem onSide_same {f : SideState → SideState} (h : f (s.side x) = s.side x) : s.onSide x f = s := by
  have hid : s.onSide x id = s := by cases x <;> rfl
  exact (Reception.onSide_congr h).trans hid

/-- With no cell held nothing is taken. -/
theorem takeHeld_none (h : (s.side x).recv.held = []) : takeHeld s x = s := by
  rw [takeHeld, h]
  exact onSide_same (by rw [SideState.releaseHeld, ← h])

/-- With nothing that could have waited for a handling its completion changes nothing. -/
theorem finishHandling_calm (hdue : frameTimeoutDue s x = false) (hheld : (s.side x).recv.held = [])
    (hhead : ∀ y, restartAtHead s x y = []) : finishHandling s x .handled = s := by
  have hexpiry : takeWaitingExpiry s x = s := if_neg (Bool.eq_false_iff.mp hdue)
  have hevents : takeWaitingEvents s x = s := by
    rw [takeWaitingEvents, hexpiry, takeWaitingRestart_none (hhead .a), takeWaitingRestart_none (hhead .b)]
  exact (congrArg (takeHeld · x) hevents).trans (takeHeld_none hheld)

end

/-- The next line of a handling when the buffer has taken the one before it and is full: it is filled and waits. -/
theorem fillThen_full {s : State} {x : Side} {after : Nat → After} {y stop : Nat} {finish : State → State}
    (hw : (s.side x).pipe.waiting = none) (hr : (s.link x).hasRoom = false) (hy : y < stop) :
    fillThen s x after y stop finish = s.onSide x fun d => (d.filled y 1).setWaiting
      (some ⟨shapeLine (s.side x).pipe.inUse (s.side x).pipe.shaping y (s.side x).recv.lastGood, after (y + 1)⟩) := by
  obtain ⟨count, hcount⟩ : ∃ count, stop - y = count + 1 := ⟨stop - y - 1, by omega⟩
  rw [fillThen, hcount, fillLines_full after count y hw hr]
  exact if_pos (by rw [waits, onSide_side_same]; rfl)

theorem resume_cell (s : State) (x : Side) (y : Nat) (c : CameraCell) :
    resume s x (.cell y c) = handleFrom s x c y := rfl

theorem resume_expiry (s : State) (x : Side) (y : Nat) : resume s x (.expiry y) = expireFrom s x y := rfl

theorem resume_abandoned (s : State) (x : Side) (r : Remainder) :
    resume s x (.abandoned r) = deliverRemainder x (r.stop - r.next) r s := rfl

/-- With no line to fill the rest of the work is done. -/
theorem fillThen_none {s : State} {x : Side} {after : Nat → After} {y stop : Nat} {finish : State → State}
    (hw : (s.side x).pipe.waiting = none) (hy : stop ≤ y) : fillThen s x after y stop finish = finish s := by
  rw [fillThen, Nat.sub_eq_zero_of_le hy]
  exact if_neg (by rw [fillLines, waits, hw]; exact Bool.false_ne_true)

/-- The next line that a SIDE RESTART has left waits while the buffer is full. -/
theorem deliverRemainder_full {s : State} {x : Side} {count : Nat} {r : Remainder}
    (hr : (s.link x).hasRoom = false) :
    deliverRemainder x (count + 1) r s = s.onSide x (·.setWaiting (some ⟨r.line, .abandoned r.advance⟩)) := by
  have hd : deliver s x r.line (.abandoned r.advance) = s.onSide x (·.setWaiting (some ⟨r.line, .abandoned r.advance⟩)) :=
    if_neg (Bool.eq_false_iff.mp hr)
  rw [deliverRemainder, hd]
  exact if_pos (by rw [waits, onSide_side_same]; rfl)

/-- Settles O47, by what the delivered line leaves to be done. -/
theorem waitingLineDelivered : Obligations.WaitingLineDelivered := by
  intro x s hfree d l next fill
  refine ⟨fun line after hw hroom => ?_, exec_delivery_refused hfree⟩
  rw [exec_delivery hfree hw hroom]
  refine ⟨⟨_, rfl⟩, fun hl hthree => ?_,
    fun f rest hafter hdue hheld hhead hl hrun hbuffer hstarts hframes hsrc hsent => ?_⟩
  · have hu := deliverWaiting_busy line hl
    have hside := deliverWaiting_side_same s x line
    have hnone : ((deliverWaiting s x line).side x).pipe.waiting = none := by rw [hside]; rfl
    have hfull : ((deliverWaiting s x line).link x).hasRoom = false := by
      rw [hu, onLink_link_same, onSide_link, LinkState.hasRoom, List.length_append]
      exact decide_eq_false (Nat.not_lt.mpr (hthree.ge.trans_lt (Nat.lt_succ_self _)))
    have hnext : ∀ (f : SideState → SideState) w, (deliverWaiting s x line).onSide x (fun d => (f d).setWaiting w) =
        (s.onSide x fun d => (f (d.setWaiting none)).setWaiting w).onLink x fun l =>
          { l with buffer := l.buffer ++ [line] } := fun f w => by rw [hu, onLink_onSide, onSide_onSide]
    have hfill : ∀ y a, (deliverWaiting s x line).onSide x (fun d => (d.filled y 1).setWaiting (some
        ⟨shapeLine (s.side x).pipe.inUse (s.side x).pipe.shaping y (s.side x).recv.lastGood, a⟩)) = fill line y a :=
      fun y a => (hnext (·.filled y 1) _).trans (congrArg (State.onLink · x _) (Reception.onSide_congr rfl))
    have hwaits : ∀ f w, ((next line f (some w)).side x).pipe.waiting.isSome = true := fun f w => by
      rw [onLink_side, onSide_side_same]
      rfl
    refine ⟨?_, ?_, ?_, ?_⟩
    · rintro y c rfl hy
      refine congrArg _ (deliverAndGoOn_waits (t := fill line y (.cell (y + 1) c)) ?_ (hwaits _ _))
      rw [resume_cell, handleFrom, fillThen_full hnone hfull (by rw [hside]; exact hy), hside]
      exact hfill y _
    · rintro y rfl hy
      refine congrArg _ (deliverAndGoOn_waits (t := fill line y (.expiry (y + 1))) ?_ (hwaits _ _))
      rw [resume_expiry, expireFrom, fillThen_full hnone hfull (by rw [hside]; exact hy), hside]
      exact hfill y _
    · rintro y body rfl hy good
      refine congrArg _ (deliverAndGoOn_waits ?_ (hwaits _ _))
      have hroom0 : ((deliverWaiting s x line).link x).room = 0 :=
        Nat.eq_zero_of_not_pos fun h => Bool.false_ne_true (hfull.symm.trans ((Reception.hasRoom_iff _).mpr h))
      have hnow : handleFrom (deliverWaiting s x line) x ⟨.line, body⟩ y =
          handLast (deliverWaiting s x line) x (((deliverWaiting s x line).side x).ownLine body) :=
        fillThen_none hnone hy
      rw [resume_cell, hnow, Reception.handLast_of_full hroom0, hside]
      refine (hnext (fun _ => (((s.side x).setWaiting none).ownLine body).1) _).trans ?_
      exact congrArg (State.onLink · x _) (Reception.onSide_congr rfl)
    · rintro r rfl hr
      refine congrArg _ (deliverAndGoOn_waits ?_ (hwaits id _))
      obtain ⟨count, hcount⟩ : ∃ count, r.stop - r.next = count + 1 := ⟨r.stop - r.next - 1, by omega⟩
      rw [resume_abandoned, hcount, deliverRemainder_full hfull]
      exact (hnext id _).trans (congrArg (State.onLink · x _) (Reception.onSide_congr rfl))
  · subst hafter
    have hsends : deliverWaiting s x line = _ := enterBuffer_sends (s := s.onSide x (·.setWaiting none)) line
      (by rwa [onSide_link]) (by rwa [onSide_link]) (by rwa [onSide_link]) (by rwa [onSide_link]) (by rwa [onSide_link])
      hsrc hsent
    have hside := deliverWaiting_side_same s x line
    have hbeside := deliverWaiting_beside s x line
    have hdue' : frameTimeoutDue (deliverWaiting s x line) x = false := by
      rw [frameTimeoutDue, hside, timeBase_of_delivery hbeside]
      exact hdue
    rw [deliverAndGoOn_done rfl (by rw [resume, hside]; rfl)]
    rw [resume, finishHandling_calm hdue' (by rw [hside]; exact hheld) fun y => by
      rw [restartAtHead_congr (requests_of_delivery hbeside y)]
      exact hhead y]
    exact congrArg _ hsends

end Sys2Proof.Delivering
end

section
/-! SIDE RESTART (R27, R57, R60, R66, R88, R107, R129, R151, R159, R171, R195, R196). -/

namespace Sys2Proof.Restarting

open Sys2Proof Sys2Proof.Machine Sys2Proof.Guarding Sys2Proof.Receiving Sys2Proof.Filling Sys2Proof.FrameEnds
  Sys2Proof.Delivering Sys2Proof.Invariants

/-! ## The guard (R159, R171) -/

/-- A guard with m at 64, in HELD or in the restoration that follows it. -/
def AtFull (g : Guard) : Prop := g.m = 64 ∧ (g.state = .held ∨ g.state = .waiting ∨ g.state = .restoring)

theorem restored_atFull (g : Guard) (k : Settings) : AtFull (Restored g k) := by
  refine ⟨rfl, .inr ?_⟩
  unfold Restored
  split
  · exact .inr rfl
  · exact .inl rfl

/-- A trip leaves a side that is not restore-ready (R135, R154). -/
theorem unready_of_trips {old new : Groups} (h : (old.pairs new).any trips = true) : new.restoreReady = false := by
  have hholds : ∀ p : Group × Group, trips p = true → (p.2.level == 3 && p.2.nonconforming) = true := fun p hp => by
    simp only [trips, Bool.and_eq_true] at hp
    rw [hp.1.1, hp.1.2]
    rfl
  obtain ⟨p, hp, htrips⟩ := List.any_eq_true.mp h
  have hmem : p.2 ∈ new.list := by
    simp only [Groups.pairs, Groups.list, List.mem_cons, List.not_mem_nil, or_false] at hp ⊢
    rcases hp with rfl | rfl | rfl | rfl <;> simp
  by_contra hready
  rw [Bool.not_eq_false, Groups.restoreReady, List.all_eq_true] at hready
  have := hready _ hmem
  rw [hholds p htrips] at this
  cases this

section
variable {s : State} {x y : Side}

/-- An evaluation finds a guard in HELD with m at 64: it stays there or goes on to restoration, and no WARN pulse starts
(R155, R157, R159). -/
theorem evaluateFrom_held {old : Groups} (hstate : (s.side x).guard.state = .held) (hm : (s.side x).guard.m = 64) :
    AtFull ((evaluateFrom s x old).side x).guard ∧ (evaluateFrom s x old).warn = s.warn := by
  obtain ⟨hwarn, -⟩ := evaluateFrom_warn s x old
  rw [evaluateFrom_guard, hwarn]
  dsimp only
  generalize (s.side x).groups.map (Group.judge (s.side x).cond.vector) = new
  cases htrips : (old.pairs new).any trips with
  | true =>
    have hready : Readied (s.side x).guard (s.side x).settings new.restoreReady =
        { (s.side x).guard with ready := new.restoreReady } :=
      if_neg fun h => Bool.false_ne_true ((unready_of_trips htrips).symm.trans h.1)
    have hstays : ∀ (g : Guard) (gone : Bool), g.state = .held →
        g.tripped gone = { g with ready := false } ∧ g.canTrip = false := fun g gone h => by
      simp only [Guard.tripped, Guard.canTrip, h, and_self]
    obtain ⟨htripped, hcan⟩ :=
      hstays { (s.side x).guard with ready := new.restoreReady } (noPicture (s.side x).cond) hstate
    rw [hready, if_pos rfl, htripped, hcan]
    exact ⟨⟨hm, .inl hstate⟩, Bool.or_false _⟩
  | false =>
    rw [if_neg Bool.false_ne_true, Bool.false_and, Bool.or_false]
    refine ⟨?_, rfl⟩
    unfold Readied
    split
    · exact restored_atFull _ _
    · exact ⟨hm, .inl hstate⟩

theorem judgeRestoration_atFull (h : AtFull (s.side x).guard) : AtFull ((judgeRestoration s x).side x).guard := by
  rw [judgeRestoration_guard]
  split
  · exact restored_atFull _ _
  · exact h

/-! ## The operation in flight (R57, R60, R66) -/

/-- A side with no operation in flight and no commit pending. -/
def withoutOperation (d : SideState) : SideState :=
  { d with store := { d.store with op := none, commitPending := false } }

theorem abortOperation_side (s : State) (y : Side) :
    (abortOperation s y).side y = withoutOperation (s.side y) := by
  unfold abortOperation
  dsimp only
  split
  · exact onSide_side_same _ _ _
  · rw [onSide_side_same, onLink_side]
    rfl

theorem abortOperation_link_of_op {op : Operation} (h : (s.side y).store.op = some op) (z : Side) :
    (abortOperation s y).link z = (s.onLink op.link (·.fill (.refused .aborted))).link z := by
  rw [abortOperation, h]
  exact onSide_link _ _ _ _

/-- An operation that ends changes the responses of its link and nothing else of the links. -/
theorem abortOperation_link (s : State) (y z : Side) :
    ∃ slots, (abortOperation s y).link z = { s.link z with responses := slots } := by
  cases h : (s.side y).store.op with
  | none =>
    refine ⟨(s.link z).responses, ?_⟩
    rw [abortOperation, h]
    exact onSide_link _ _ _ _
  | some op =>
    rw [abortOperation_link_of_op h]
    exact onLink_forall (P := fun l m => ∃ slots, m = { l with responses := slots }) (fun l => ⟨l.responses, rfl⟩)
      ⟨_, rfl⟩ z

/-! ## The abandonment (R27, R88) -/

theorem abandonFrame_side (s : State) (y : Side) : ∃ r g w,
    (abandonFrame s y).side y =
      { s.side y with
        recv := r
        stats := { (s.side y).stats with gathering := g }
        pipe := { (s.side y).pipe with waiting := w } } ∧
    r.frameNumber = (s.side y).recv.frameNumber ∧ r.lastGood = (s.side y).recv.lastGood := by
  unfold abandonFrame
  dsimp only
  split
  · obtain ⟨k, -, h⟩ := fillLines_beside (x := y) (fun n => .abandoned ((s.side y).remainder n))
      ((s.side y).frameHeight - (s.side y).recv.expected) (s.side y).recv.expected s
    have hside := side_of_delivery (besideDelivery_side h)
    rw [onSide_side_same] at hside
    rw [endAbandoned_side, hside]
    exact ⟨_, _, _, rfl, rfl, rfl⟩
  · exact ⟨_, _, _, rfl, rfl, rfl⟩

theorem abandonFrame_beside (s : State) (y : Side) :
    ∃ f : SideState → SideState, (abandonFrame s y).besideDelivery y = (s.onSide y f).besideDelivery y := by
  unfold abandonFrame
  dsimp only
  split
  · obtain ⟨k, -, h⟩ := fillLines_beside (x := y) (fun n => .abandoned ((s.side y).remainder n))
      ((s.side y).frameHeight - (s.side y).recv.expected) (s.side y).recv.expected s
    generalize fillLines y _ _ _ s = s1 at h
    refine ⟨fun d => (d.filled (s.side y).recv.expected k).discardGathering.setRecv .waitStart, ?_⟩
    have hcomm : ∀ u : State, (u.onSide y fun d => d.discardGathering.setRecv .waitStart).besideDelivery y =
        (u.besideDelivery y).onSide y fun d => d.discardGathering.setRecv .waitStart := fun u => by cases y <;> rfl
    rw [besideDelivery_of_egress (endAbandoned_beside s1 y), hcomm, h, ← hcomm, onSide_onSide]
  · exact ⟨id, by cases y <;> rfl⟩

/-- An abandonment on a lane that is sending, by the room that the egress line buffer has (log 6). -/
theorem abandonFrame_busy (hr : (s.side y).recv.state = .receiving) (hw : (s.side y).pipe.waiting = none)
    (hl : (s.link y).lane ≠ .idle) :
    let d := s.side y
    let n := d.recv.expected
    let total := d.frameHeight - n
    let room := (s.link y).room
    let t := abandonFrame s y
    (total ≤ room →
      (t.side y).pipe.waiting = none ∧ (t.link y).buffer = (s.link y).buffer ++ filledLines d n total) ∧
    (room < total →
      (t.side y).pipe.waiting =
        some ⟨shapeLine d.pipe.inUse d.pipe.shaping (n + room) d.recv.lastGood, .abandoned (d.remainder (n + room + 1))⟩ ∧
      (t.link y).buffer = (s.link y).buffer ++ filledLines d n room) := by
  intro d n total room t
  have ht : t = endAbandoned (fillLines y (fun n => .abandoned (d.remainder n)) total n s) y := if_pos hr
  have hwaiting : ∀ u : State, ((endAbandoned u y).side y).pipe.waiting = (u.side y).pipe.waiting := fun u => by
    rw [endAbandoned_side]
    rfl
  refine ⟨fun hroom => ?_, fun hroom => ?_⟩
  · rw [ht, hwaiting, fillLines_fit _ _ _ _ hl hw hroom, endAbandoned_link_busy (by rw [afterFills_link]; exact hl),
      afterFills_link, afterFills_side]
    exact ⟨hw, rfl⟩
  · rw [ht, hwaiting, fillLines_stop _ _ _ _ hl hw hroom,
      endAbandoned_link_busy (by rw [onSide_link, afterFills_link]; exact hl), onSide_link, afterFills_link,
      onSide_side_same]
    exact ⟨rfl, rfl⟩

/-- Lines filled on a lane that is sending leave the lane and the frames in progress. -/
theorem fillLines_frames (after : Nat → After) : ∀ (count n : Nat) (s : State), (s.link y).lane ≠ .idle →
    ((fillLines y after count n s).link y).lane = (s.link y).lane ∧
    ((fillLines y after count n s).link y).frames = (s.link y).frames
  | 0, _, _, _ => ⟨rfl, rfl⟩
  | count + 1, n, s, hl => by
    have hd : ∀ line a, ((deliver (s.onSide y fun d => (d.fillLine n).1) y line a).link y).lane = (s.link y).lane ∧
        ((deliver (s.onSide y fun d => (d.fillLine n).1) y line a).link y).frames = (s.link y).frames := fun line a => by
      rw [deliver_busy _ _ _ _ (by rw [onSide_link]; exact hl)]
      split
      · rw [onLink_link_same, onSide_link]
        exact ⟨rfl, rfl⟩
      · rw [onSide_link, onSide_link]
        exact ⟨rfl, rfl⟩
    rw [fillLines]
    obtain ⟨hlane, hframes⟩ := hd ((s.side y).fillLine n).2 (after (n + 1))
    generalize deliver (s.onSide y fun d => (d.fillLine n).1) y ((s.side y).fillLine n).2 (after (n + 1)) = s1 at *
    split
    · exact ⟨hlane, hframes⟩
    · obtain ⟨hlane2, hframes2⟩ := fillLines_frames after count (n + 1) s1 (by rw [hlane]; exact hl)
      exact ⟨hlane2.trans hlane, hframes2.trans hframes⟩

theorem abandonFrame_frames (hr : (s.side y).recv.state = .receiving) (hl : (s.link y).lane ≠ .idle) :
    ((abandonFrame s y).link y).frames = ((s.link y).handEnd .follow).frames := by
  have ht : abandonFrame s y = endAbandoned (fillLines y (fun n => .abandoned ((s.side y).remainder n))
      ((s.side y).frameHeight - (s.side y).recv.expected) (s.side y).recv.expected s) y := if_pos hr
  obtain ⟨hlane, hframes⟩ := fillLines_frames (y := y) (fun n => .abandoned ((s.side y).remainder n))
    ((s.side y).frameHeight - (s.side y).recv.expected) (s.side y).recv.expected s hl
  rw [ht, endAbandoned_link_busy (by rw [hlane]; exact hl), LinkState.handEnd, LinkState.handEnd, hframes]

/-- An abandonment leaves the other link. -/
theorem abandonFrame_link_other {z : Side} (hz : z ≠ y) : (abandonFrame s y).link z = s.link z := by
  obtain ⟨f, h⟩ := abandonFrame_beside s y
  have hkeeps : ∀ u : State, (u.besideDelivery y).link z = u.link z := fun u => by
    rw [State.besideDelivery, onSide_link]
    exact onLink_link_other u _ hz
  rw [← hkeeps, h, hkeeps, onSide_link]

/-- What an abandonment leaves of the part beside its side and its link. -/
theorem abandonFrame_part {α : Type} (p : State → α) (hlink : ∀ u f, p (u.onLink y f) = p u)
    (hside : ∀ u f, p (u.onSide y f) = p u) : p (abandonFrame s y) = p s := by
  obtain ⟨f, h⟩ := abandonFrame_beside s y
  have hkeeps : ∀ u : State, p (u.besideDelivery y) = p u := fun u => (hside _ _).trans (hlink u _)
  rw [← hkeeps, h, hkeeps, hside]

theorem abortOperation_part {α : Type} (p : State → α) (hlink : ∀ u z f, p (u.onLink z f) = p u)
    (hside : ∀ u f, p (u.onSide y f) = p u) : p (abortOperation s y) = p s := by
  unfold abortOperation
  dsimp only
  rw [hside]
  split
  · rfl
  · exact hlink _ _ _

/-! ## The restart of a side (R196) -/

theorem restartSide_beside (s : State) (y : Side) :
    (restartSide s y).besideSupervision y =
      ((abandonFrame (abortOperation s y) y).onSide y restarted).besideSupervision y := by
  rw [restartSide_eq]
  exact (judgeRestoration_beside _ y).trans ((evaluate_beside _ y).trans (setGuard_beside _ y _ _ _))

theorem restartSide_guard (s : State) (y : Side) :
    AtFull ((restartSide s y).side y).guard ∧ (restartSide s y).warn = s.warn := by
  rw [restartSide_eq, judgeRestoration_warn]
  have hg : ((setGuard ((abandonFrame (abortOperation s y) y).onSide y restarted) y .held 64 0).side y).guard.state =
      .held ∧ ((setGuard ((abandonFrame (abortOperation s y) y).onSide y restarted) y .held 64 0).side y).guard.m = 64 := by
    rw [setGuard_guard]
    exact ⟨rfl, rfl⟩
  obtain ⟨hfull, hwarn⟩ := evaluateFrom_held (old := (State.side _ y).groups) hg.1 hg.2
  refine ⟨judgeRestoration_atFull hfull, hwarn.trans ?_⟩
  rw [setGuard_warn, onSide_warn,
    abandonFrame_part State.warn (fun _ _ => onLink_warn _ _ _) fun _ _ => onSide_warn _ _ _,
    abortOperation_part State.warn (fun _ _ _ => onLink_warn _ _ _) fun _ _ => onSide_warn _ _ _]

/-- The side that a restart leaves. -/
theorem restartSide_side (s : State) (y : Side) : ∃ groups guard,
    (restartSide s y).side y =
      { restarted ((abandonFrame (abortOperation s y) y).side y) with groups := groups, guard := guard } := by
  have h := besideSupervision_rest (beside_side (restartSide_beside s y)).symm
  rw [onSide_side_same] at h
  exact ⟨_, _, h⟩

/-- The findings of a failed word 705 depend on the store and the vector alone (R50). -/
theorem findFailed_restartExposure (d : SideState) (ws : List Nat) :
    (d.restartExposure.findFailed ws).store.parity = (d.findFailed ws).store.parity ∧
      (d.restartExposure.findFailed ws).cond.tableParity = (d.findFailed ws).cond.tableParity := by
  have hstore : d.restartExposure.store = d.store := rfl
  unfold SideState.findFailed
  rw [hstore]
  cases d.store.active with
  | none => exact ⟨rfl, rfl⟩
  | some i =>
    dsimp only
    cases failedWords (d.store.bank i) ws <;> exact ⟨rfl, rfl⟩

/-- The restart values of a side in one record (R27, R43, R88, R107, R129, R151, R165). -/
theorem restarted_eq (d : SideState) :
    restarted d =
      { d with
        recv :=
          { d.recv with
            state := .waitStart, expected := 0, damaged := 0, missing := 0, discarded := 0, signature := 0
            prevSignature := none, prevFrame := none, freeze := 0
            lastGood := List.replicate d.recv.lastGood.length Rgb.black }
        status := .empty, timing := .empty, frameTimer := none, periodTimer := none
        source := .standalone, standaloneDue := true
        stats := { gathering := .empty, published := .empty }
        glare :=
          { d.glare with
            night := .day, counter := 0, target := zeroMap, current := zeroMap, next := zeroMap, zoneCount := 0
            update := d.glare.update.map fun u => { u with dropped := true } }
        pipe := { d.pipe with map := zeroMap, knee := 4095, nextReady := false, fade := 64 }
        exposure :=
          { d.exposure with
            index := d.restartIndex, last := none, tag := 0, slot := .empty, pinned := 0, passQueue := [] }
        store := { d.store with parity := (d.findFailed [705]).store.parity }
        cond :=
          { Conditions.reset with
            displayFault := d.cond.displayFault, noTables := d.cond.noTables, forced := d.cond.forced
            tableParity := (d.findFailed [705]).cond.tableParity } } := by
  obtain ⟨hparity, htable⟩ := findFailed_restartExposure d [705]
  unfold restarted SideState.restartValues
  rw [findFailed_frame, hparity, htable]
  rfl

theorem restartSide_side_other {z : Side} (hz : z ≠ y) : (restartSide s y).side z = s.side z := by
  rw [beside_side_other hz (restartSide_beside s y), onSide_side_other _ _ hz]
  rw [abandonFrame_part (fun u => u.side z) (fun _ _ => onLink_side _ _ _ _) fun _ _ => onSide_side_other _ _ hz,
    abortOperation_part (fun u => u.side z) (fun _ _ _ => onLink_side _ _ _ _) fun _ _ => onSide_side_other _ _ hz]

theorem restartSide_link (s : State) (y z : Side) : ∃ a b,
    (restartSide s y).link z = { (abandonFrame (abortOperation s y) y).link z with reportA := a, reportB := b } := by
  obtain ⟨a, b, h⟩ := beside_link (restartSide_beside s y) z
  exact ⟨a, b, by rw [h, onSide_link]⟩

theorem restartSide_requests (s : State) (y z : Side) :
    ((restartSide s y).link z).requests = (s.link z).requests := by
  obtain ⟨a, b, h⟩ := restartSide_link s y z
  obtain ⟨f, hb⟩ := abandonFrame_beside (abortOperation s y) y
  obtain ⟨slots, hl⟩ := abortOperation_link s y z
  rw [h]
  show ((abandonFrame _ y).link z).requests = _
  rw [requests_of_delivery hb, onSide_link, hl]

theorem restartSide_timeBase (s : State) (y : Side) : (restartSide s y).timeBase = s.timeBase := by
  rw [beside_timeBase (restartSide_beside s y), onSide_timeBase,
    abandonFrame_part State.timeBase (fun _ _ => onLink_timeBase _ _ _) fun _ _ => onSide_timeBase _ _ _,
    abortOperation_part State.timeBase (fun _ _ _ => onLink_timeBase _ _ _) fun _ _ => onSide_timeBase _ _ _]

theorem restartSide_notice (s : State) (y : Side) : (restartSide s y).notice = s.notice := by
  have hkeeps : ∀ u : State, (u.besideSupervision y).notice = u.notice := fun u => by cases y <;> rfl
  have hlink : ∀ (u : State) z f, (u.onLink z f).notice = u.notice := fun u z f => by cases z <;> rfl
  have hside : ∀ (u : State) f, (u.onSide y f).notice = u.notice := fun u f => by cases y <;> rfl
  rw [← hkeeps, restartSide_beside, hkeeps, hside, abandonFrame_part State.notice (fun u => hlink u y) hside,
    abortOperation_part State.notice hlink hside]

end

/-! ## The request (R27, R195) -/

section
variable {s : State} {x y : Side} {r : Request}

theorem headOf_of_canTake {k : RequestKind} (h : CanTake s x r) (hk : r.requestKind = k) : headOf s x k = some r := by
  rw [headOf, TableBanks.headRequest_of_canTake h]
  exact Option.filter_some_pos (decide_eq_true hk)

theorem restartWaits_of_canTake (h : CanTake s x r) (hk : r.requestKind = .sideRestart) (hn : r.names = some y) :
    restartWaits s x = handlingCell s y := by
  rw [restartWaits, headOf_of_canTake h hk]
  dsimp only
  rw [hn]

theorem restartWaits_of_unnamed (h : CanTake s x r) (hk : r.requestKind = .sideRestart) (hn : r.names = none) :
    restartWaits s x = false := by
  rw [restartWaits, headOf_of_canTake h hk]
  dsimp only
  rw [hn]

theorem handlingCell_of_line {w : Waiting} (hw : (s.side y).pipe.waiting = some w)
    (hnot : ∀ left, w.after ≠ .abandoned left) : handlingCell s y = true := by
  obtain ⟨line, after⟩ := w
  rw [handlingCell, hw]
  cases after with
  | handled => rfl
  | cell n c => rfl
  | expiry n => rfl
  | abandoned left => exact absurd rfl (hnot left)

theorem handlingCell_of_idle (h : ∀ w, (s.side y).pipe.waiting = some w → ∃ left, w.after = .abandoned left) :
    handlingCell s y = false := by
  unfold handlingCell
  cases hw : (s.side y).pipe.waiting with
  | none => rfl
  | some w =>
    obtain ⟨left, hleft⟩ := h w hw
    dsimp only
    rw [hleft]

/-- The E of an Einit word: its value, or for a failed word the least index of the limits in force (R110, R111). -/
theorem initialIndex_eq (word : TableWord) (limits : Option (Nat × Nat)) :
    initialIndex word limits = if word.failed then limits.elim 0 Prod.fst else word.value.toNat := by
  have hleast : ∀ lo hi, clampInto lo hi 0 = lo := fun lo hi => by
    unfold clampInto
    split
    · rfl
    · rw [if_neg (Nat.not_lt_zero _)]
      omega
  unfold initialIndex
  cases limits with
  | none => rfl
  | some l =>
    dsimp only [Option.elim_some]
    rw [hleast]

end

section
variable {s : State} {x y z : Side}

/-- The links of a part whose request has been taken and whose operation has ended: their queues aside, as they were. -/
theorem abortOperation_takeRequest_link (s : State) (x y z : Side) :
    ∃ slots requests, (abortOperation (takeRequest s x) y).link z =
      { s.link z with responses := slots, requests := requests } := by
  obtain ⟨slots, h⟩ := abortOperation_link (takeRequest s x) y z
  obtain ⟨requests, hr⟩ := onLink_forall (x := x) (f := fun l => { l with requests := l.requests.drop 1 }) (s := s)
    (P := fun l m => ∃ requests, m = { l with requests := requests }) (fun l => ⟨l.requests, rfl⟩) ⟨_, rfl⟩ z
  exact ⟨slots, requests, by rw [h, takeRequest, hr]⟩

/-- A link of the part that a restart leaves is that of the abandonment, its report-pending flags and its queues aside. -/
theorem respond_restartSide_link (s : State) (x y z : Side) (a : Response) : ∃ slots ra rb,
    (respond (restartSide s y) x a).link z =
      { (abandonFrame (abortOperation s y) y).link z with responses := slots, reportA := ra, reportB := rb } := by
  obtain ⟨ra, rb, h⟩ := restartSide_link s y z
  obtain ⟨slots, hr⟩ := onLink_forall (x := x) (f := (·.answer a)) (s := restartSide s y)
    (P := fun l m => ∃ slots, m = { l with responses := slots }) (fun l => ⟨l.responses, rfl⟩) ⟨_, rfl⟩ z
  exact ⟨slots, ra, rb, by rw [respond, hr, h]⟩

/-- A link from which a request can be taken has no operation in flight (R183, R184). -/
theorem link_ne_of_canTake {r : Request} {op : Operation} (h : CanTake s x r) (hop : (s.side y).store.op = some op) :
    op.link ≠ x := by
  obtain ⟨-, hops, -, -⟩ := h
  rintro rfl
  have hfrom : (s.side y).store.opFrom op.link = true := by
    rw [Store.opFrom, hop]
    exact decide_eq_true rfl
  unfold opsFrom at hops
  cases y <;> (rw [State.side] at hfrom; rw [hfrom] at hops; simp at hops)

/-- The slot of the operation in flight holds REFUSED ABORTED, unless the abandonment has to do with its link (R57). -/
theorem respond_restartSide_responses {op : Operation} (a : Response) (hop : (s.side y).store.op = some op)
    (hx : op.link ≠ x) (hapart : (s.side y).recv.state ≠ .receiving ∨ op.link ≠ y) :
    ((respond (restartSide (takeRequest s x) y) x a).link op.link).responses =
      fillReserved (s.link op.link).responses (.refused .aborted) := by
  have hop' : ((takeRequest s x).side y).store.op = some op := by rw [Requests.takeRequest_side]; exact hop
  have hkept : (abandonFrame (abortOperation (takeRequest s x) y) y).link op.link =
      (abortOperation (takeRequest s x) y).link op.link := by
    rcases hapart with hr | hy
    · have hsame : abandonFrame (abortOperation (takeRequest s x) y) y = abortOperation (takeRequest s x) y :=
        if_neg (by rw [abortOperation_side, Requests.takeRequest_side]; exact hr)
      rw [hsame]
    · exact abandonFrame_link_other hy
  obtain ⟨ra, rb, hlink⟩ := restartSide_link (takeRequest s x) y op.link
  rw [respond, onLink_link_other _ _ hx, hlink, hkept, abortOperation_link_of_op hop', onLink_link_same, takeRequest,
    onLink_link_other _ _ hx]
  rfl

theorem findings_none {d : SideState} (h : d.store.active = none) (ws : List Nat) :
    (d.findFailed ws).cond.tableParity = d.cond.tableParity ∧ (d.findFailed ws).store.parity = d.store.parity := by
  rw [Taking.findFailed_none h]
  exact ⟨rfl, rfl⟩

theorem restartIndex_none {d : SideState} (h : d.store.active = none) : d.restartIndex = none := by
  rw [SideState.restartIndex, h]

theorem restartIndex_some {d : SideState} {i : BankId} (h : d.store.active = some i) :
    d.restartIndex = some (initialIndex ((d.store.bank i).read 705) d.exposure.limits) := by
  rw [SideState.restartIndex, h]

end

/-- Settles O59, by the side, the links and the guard that the orders of R196 leave. -/
theorem sideRestarted : Obligations.SideRestarted := by
  intro x r s htake hk
  have hkind := Requests.requestKind_of_kind hk .sideRestart rfl
  have hexec : restartWaits s x = false →
      exec (.sideRestart x) s = .next (doSideRestart (takeRequest s x) x r) := fun h =>
    (if_neg (Bool.eq_false_iff.mp h)).trans (TableBanks.taken_of_canTake htake hkind _)
  refine ⟨fun hn => ?_, fun y w hn hw hnot => ?_, fun y hn hidle => ?_⟩
  · rw [hexec (restartWaits_of_unnamed htake hkind hn), doSideRestart, hn]
    exact congrArg _ (ExposureControl.respond_takeRequest _)
  · have hwaits := restartWaits_of_canTake htake hkind hn
    exact if_pos (hwaits.trans (handlingCell_of_line hw hnot))
  · have hstart : doSideRestart (takeRequest s x) x r = respond (restartSide (takeRequest s x) y) x .done := by
      rw [doSideRestart, hn]
    refine ⟨_, hexec ((restartWaits_of_canTake htake hkind hn).trans (handlingCell_of_idle hidle)), ?_⟩
    rw [hstart]
    obtain ⟨groups, guard, hrestarted⟩ := restartSide_side (takeRequest s x) y
    obtain ⟨hfull, hwarn⟩ := restartSide_guard (takeRequest s x) y
    obtain ⟨recv, gathering, waiting, hbase, hnumber, hgood⟩ :=
      abandonFrame_side (abortOperation (takeRequest s x) y) y
    rw [abortOperation_side, Requests.takeRequest_side] at hbase hnumber hgood
    rw [hrestarted] at hfull
    rw [restarted_eq, hbase] at hrestarted
    obtain ⟨slots, ra, rb, hlink⟩ := respond_restartSide_link (takeRequest s x) x y y .done
    obtain ⟨slots', requests, hlink'⟩ := abortOperation_takeRequest_link s x y y
    have hwaiting : waiting = ((abandonFrame (abortOperation (takeRequest s x) y) y).side y).pipe.waiting := by
      rw [hbase]
    have haborted : (abortOperation (takeRequest s x) y).side y = withoutOperation (s.side y) := by
      rw [abortOperation_side, Requests.takeRequest_side]
    intro d e
    have he : e = _ := (onLink_side _ _ _ _).trans hrestarted
    clear_value e
    subst he
    refine ⟨rfl, rfl, hnumber, rfl, rfl, rfl, rfl, rfl, rfl, rfl, fun p hp => List.eq_of_mem_replicate hp,
      List.length_replicate.trans (congrArg List.length hgood), rfl, rfl, rfl, rfl, rfl, rfl, rfl, rfl, rfl, rfl, rfl,
      rfl, rfl, fun u hu => ?_, rfl, rfl, rfl, rfl, rfl, rfl, rfl, rfl, rfl, rfl, rfl, fun hactive => ⟨?_, ?_, ?_⟩,
      fun i hactive => ⟨?_, ?_, ?_⟩, fun hr => ?_, fun hr hw hl => ?_, fun hl hr => ?_, rfl, rfl, rfl, rfl, rfl, rfl,
      rfl, rfl, rfl, hfull.1, hfull.2, fun op hop hapart => ?_, ?_, ?_, ?_, ?_, ?_, fun z hz => ?_⟩
    · obtain ⟨v, -, rfl⟩ := Option.map_eq_some_iff.mp hu
      rfl
    · exact restartIndex_none hactive
    · refine (findings_none ?_ _).1
      exact hactive
    · refine (findings_none ?_ _).2
      exact hactive
    · refine (restartIndex_some hactive).trans (congrArg some ((initialIndex_eq _ _).trans ?_))
      show (if _ then (s.side y).exposure.limits.elim 0 Prod.fst else _) = _
      cases (s.side y).exposure.limits <;> rfl
    · refine (Taking.findFailed_found (i := i) ?_ [705]).trans (congrArg (_ || ·) (Bool.or_false _))
      exact hactive
    · refine Taking.findFailed_parity (i := i) ?_ [705]
      exact hactive
    · have hkept : abandonFrame (abortOperation (takeRequest s x) y) y = abortOperation (takeRequest s x) y :=
        if_neg (by rw [haborted]; exact hr)
      exact hwaiting.trans (by rw [hkept, haborted]; rfl)
    · have hbusy := abandonFrame_busy (s := abortOperation (takeRequest s x) y) (y := y) (by rw [haborted]; exact hr)
        (by rw [haborted]; exact hw) (by rw [hlink']; exact hl)
      rw [haborted, hlink'] at hbusy
      obtain ⟨hfit, hstop⟩ := hbusy
      refine ⟨fun hroom => ?_, fun hroom => ?_⟩
      · obtain ⟨hnone, hbuffer⟩ := hfit hroom
        exact ⟨hwaiting.trans hnone, by rw [hlink]; exact hbuffer⟩
      · obtain ⟨hsome, hbuffer⟩ := hstop hroom
        exact ⟨hwaiting.trans hsome, by rw [hlink]; exact hbuffer⟩
    · have hframes := abandonFrame_frames (s := abortOperation (takeRequest s x) y) (y := y)
        (by rw [haborted]; exact hr) (by rw [hlink']; exact hl)
      rw [hlink]
      refine hframes.trans ?_
      rw [hlink']
      rfl
    · exact respond_restartSide_responses .done hop (link_ne_of_canTake htake hop) hapart
    · rw [respond, onLink_link_same]
      exact List.getLast?_concat
    · rw [respond, onLink_link_same]
      refine (restartSide_requests _ _ _).trans ?_
      rw [takeRequest, onLink_link_same]
    · rw [respond, onLink_timeBase, restartSide_timeBase, takeRequest, onLink_timeBase]
    · rw [respond, onLink_notice, restartSide_notice, takeRequest, onLink_notice]
    · rw [respond, onLink_warn, hwarn, takeRequest, onLink_warn]
    · rw [respond, onLink_side, restartSide_side_other hz, Requests.takeRequest_side]

end Sys2Proof.Restarting
end

section
/-! What the handling of a cell does not read or touch: the cells held, and the state of RESET and the request queues
(R1, R174, R183). -/

namespace Sys2Proof.Untouched

open Sys2Proof Sys2Proof.Machine Sys2Proof.Guarding

/-! ## Changes of the receiver and of the frame timeout that the handling of a cell does not read -/

/-- A side with its receiver and its frame timeout changed. -/
def markedSide (r : Receiver → Receiver) (k : Option Time → Option Time) (d : SideState) : SideState :=
  { d with recv := r d.recv, frameTimer := k d.frameTimer }

/-- The part with the receiver and the frame timeout of a side changed. -/
def marked (x : Side) (r : Receiver → Receiver) (k : Option Time → Option Time) (s : State) : State :=
  s.onSide x (markedSide r k)

/-- A receiver that holds these cells, the line that it expects changed. -/
def holding (cells : List CameraCell) (g : Nat → Nat) (q : Receiver) : Receiver :=
  { q with held := cells, expected := g q.expected }

/-- The part with these cells held by the link layer of a side. -/
def withHeld (x : Side) (cells : List CameraCell) (s : State) : State := marked x (holding cells id) id s

section
variable {x : Side} {r : Receiver → Receiver} {k : Option Time → Option Time} {s : State}

theorem marked_side : (marked x r k s).side x = markedSide r k (s.side x) := onSide_side_same _ _ _

/-- An evaluation reads neither the receiver nor the frame timeout. -/
theorem unread_marked : Unread x (marked x r k) := by
  refine ⟨fun s f => ?_, fun s => ?_, fun s => ?_, fun s => ?_, fun s => ?_, fun s => ?_⟩
  · cases x <;> rfl
  · cases x <;> rfl
  · cases x <;> rfl
  · cases x <;> rfl
  · unfold marked warnPulseStart
    rw [onSide_warn]
    split <;> cases x <;> rfl
  · rw [marked_side]
    exact ⟨rfl, rfl, rfl, rfl⟩

theorem marked_onSide {f g : SideState → SideState} (h : ∀ d, markedSide r k (f d) = g (markedSide r k d)) :
    marked x r k (s.onSide x f) = (marked x r k s).onSide x g := by
  rw [marked, marked, onSide_onSide, onSide_onSide]
  exact congrArg (s.onSide x) (funext h)

theorem marked_onLink {z : Side} {h : LinkState → LinkState} :
    marked x r k (s.onLink z h) = (marked x r k s).onLink z h := onLink_onSide s x z _ h

/-- A cell is chosen and built without either (R176, R178). -/
theorem chooseCell_marked : chooseCell (marked x r k s) = chooseCell s := by
  have hreport : ∀ z, reportCell (marked x r k s) z = reportCell s z := fun z => by cases x <;> cases z <;> rfl
  funext l
  simp only [chooseCell, arbiter, hreport]

theorem marked_kick {z : Side} : marked x r k (kick s z) = kick (marked x r k s) z := by
  have hlink : (marked x r k s).link z = s.link z := onSide_link _ _ _ _
  unfold kick
  rw [hlink]
  split
  · rw [marked_onLink, chooseCell_marked]
  · rfl

theorem marked_settle (s : State) (before : Conditions) :
    marked x r k (settle s x before) = settle (marked x r k s) x before := unread_marked.settle s before

theorem marked_handFollowEnd (s : State) : marked x r k (handFollowEnd s x) = handFollowEnd (marked x r k s) x := by
  rw [handFollowEnd, marked_kick, marked_onLink]
  rfl

/-- The guard counts down without either (R160). -/
theorem marked_guardFrameEnd (s : State) : marked x r k (guardFrameEnd s x) = guardFrameEnd (marked x r k s) x := by
  have hguard : ((marked x r k s).side x).guard = (s.side x).guard := by rw [marked_side]; rfl
  unfold guardFrameEnd
  dsimp only
  rw [hguard]
  split
  · split <;> exact unread_marked.setGuard s _ _ _
  all_goals rfl

/-- The guard steps without either (R158). -/
theorem marked_guardStep (s : State) : marked x r k (guardStep s x) = guardStep (marked x r k s) x := by
  have hguard : ((marked x r k s).side x).guard = (s.side x).guard := by rw [marked_side]; rfl
  have hset : ((marked x r k s).side x).settings = (s.side x).settings := by rw [marked_side]; rfl
  unfold guardStep
  dsimp only
  rw [hguard, hset]
  split
  · split
    · rw [unread_marked.judgeRestoration, unread_marked.setGuard]
    · exact unread_marked.setGuard s _ _ _
  · split <;> exact unread_marked.setGuard s _ _ _
  all_goals rfl

/-! ## The end of a frame (R17 to R21, R215) -/

theorem findFailed_marked (d : SideState) (ws : List Nat) :
    markedSide r k (d.findFailed ws) = (markedSide r k d).findFailed ws := by
  have hstore : (markedSide r k d).store = d.store := rfl
  unfold SideState.findFailed
  rw [hstore]
  cases d.store.active with
  | none => rfl
  | some i =>
    dsimp only
    cases failedWords (d.store.bank i) ws <;> rfl

theorem startUpdate_marked (d : SideState) : markedSide r k d.startUpdate = (markedSide r k d).startUpdate := by
  have hnew : (markedSide r k d).newUpdate = d.newUpdate := rfl
  unfold SideState.startUpdate
  rw [hnew, ← findFailed_marked]
  rfl

theorem closeFrame_marked (cells : List CameraCell) (g : Nat → Nat) (d : SideState) :
    markedSide (holding cells g) k d.closeFrame = (markedSide (holding cells g) k d).closeFrame := by
  have hupdate : (markedSide (holding cells g) k d).judgeCounts.judgeFreeze.glare.update =
      d.judgeCounts.judgeFreeze.glare.update := rfl
  unfold SideState.closeFrame SideState.completedEnd
  rw [hupdate]
  cases d.judgeCounts.judgeFreeze.glare.update with
  | some u => rfl
  | none =>
    have hset : ∀ e : SideState, markedSide (holding cells g) k (e.setRecv .waitStart) =
        (markedSide (holding cells g) k e).setRecv .waitStart := fun _ => rfl
    dsimp only
    rw [hset, startUpdate_marked]
    rfl

theorem marked_endFrame (cells : List CameraCell) (g : Nat → Nat) (s : State) :
    marked x (holding cells g) k (endFrame s x) = endFrame (marked x (holding cells g) k s) x := by
  have hcond : ((marked x (holding cells g) k s).side x).cond = (s.side x).cond := by rw [marked_side]; rfl
  rw [endFrame, marked_handFollowEnd, marked_guardFrameEnd, marked_settle, marked_onSide (closeFrame_marked cells g),
    ← hcond]
  rfl

theorem marked_endAbandoned (cells : List CameraCell) (g : Nat → Nat) (s : State) :
    marked x (holding cells g) k (endAbandoned s x) = endAbandoned (marked x (holding cells g) k s) x := by
  rw [endAbandoned, marked_handFollowEnd,
    marked_onSide (g := fun d => d.discardGathering.setRecv .waitStart) fun _ => rfl]
  rfl

/-- The loss of the link reads neither, and stops the frame timeout however it runs (R34, R215). -/
theorem marked_linkLost (s : State) : marked x r id (linkLost s x) = linkLost (marked x r k s) x := by
  have hcond : ((marked x r k s).side x).cond = (s.side x).cond := by rw [marked_side]; rfl
  have hlose : marked x r id (s.onSide x SideState.loseLink) = (marked x r k s).onSide x SideState.loseLink := by
    rw [marked, marked, onSide_onSide, onSide_onSide]
    rfl
  rw [linkLost, marked_onSide (g := SideState.goStandalone) fun _ => rfl, marked_settle, hlose, ← hcond]
  rfl

/-! ## Lines (R10, R21, R67, R174) -/

theorem marked_deliver (s : State) (line : OutLine) (after : After) :
    marked x r k (deliver s x line after) = deliver (marked x r k s) x line after := by
  have hlink : (marked x r k s).link x = s.link x := onSide_link _ _ _ _
  unfold deliver
  rw [hlink]
  split
  · rw [enterBuffer, marked_kick, marked_onLink]
    rfl
  · exact marked_onSide fun _ => rfl

variable (cells : List CameraCell)

theorem withHeld_side (s : State) : (withHeld x cells s).side x = markedSide (holding cells id) id (s.side x) :=
  marked_side

theorem withHeld_reset (s : State) : (withHeld x cells s).resetHeld = s.resetHeld := onSide_resetHeld _ _ _

theorem withHeld_link (s : State) (z : Side) : (withHeld x cells s).link z = s.link z := onSide_link _ _ _ _

theorem withHeld_waiting (s : State) : ((withHeld x cells s).side x).pipe.waiting = (s.side x).pipe.waiting := by
  rw [withHeld_side]
  rfl

theorem waits_withHeld (s : State) : waits (withHeld x cells s) x = waits s x := by
  rw [waits, withHeld_waiting]
  rfl

theorem withHeld_fillLines (after : Nat → After) : ∀ (count y : Nat) (s : State),
    withHeld x cells (fillLines x after count y s) = fillLines x after count y (withHeld x cells s)
  | 0, _, _ => rfl
  | count + 1, y, s => by
    have hline : (((withHeld x cells s).side x).fillLine y).2 = ((s.side x).fillLine y).2 := by
      rw [withHeld, marked_side]
      rfl
    have hstep : withHeld x cells (deliver (s.onSide x fun d => (d.fillLine y).1) x ((s.side x).fillLine y).2
        (after (y + 1))) =
        deliver ((withHeld x cells s).onSide x fun d => (d.fillLine y).1) x (((withHeld x cells s).side x).fillLine y).2
          (after (y + 1)) := by
      rw [hline, withHeld, marked_deliver, marked_onSide (g := fun d => (d.fillLine y).1) fun _ => rfl]
      rfl
    rw [fillLines, fillLines, ← hstep, waits_withHeld]
    split
    · rfl
    · exact withHeld_fillLines after count (y + 1) _

theorem withHeld_fillThen {finish : State → State} (hf : ∀ s, withHeld x cells (finish s) = finish (withHeld x cells s))
    (s : State) (after : Nat → After) (y stop : Nat) :
    withHeld x cells (fillThen s x after y stop finish) = fillThen (withHeld x cells s) x after y stop finish := by
  unfold fillThen
  dsimp only
  rw [← withHeld_fillLines, waits_withHeld]
  split
  · rfl
  · exact hf _

/-! ## The expiry of the frame timeout (R21, R215) -/

theorem withHeld_expireFrameTimeout (s : State) :
    withHeld x cells (expireFrameTimeout s x) = expireFrameTimeout (withHeld x cells s) x := by
  have hside : (withHeld x cells s).side x = markedSide (holding cells id) id (s.side x) := marked_side
  unfold expireFrameTimeout expireFrom
  rw [hside]
  show withHeld x cells (if (s.side x).recv.state = .receiving then _ else _) =
    if (s.side x).recv.state = .receiving then _ else _
  split
  · refine withHeld_fillThen cells (fun u => ?_) s _ _ _
    rw [withHeld, marked_linkLost (k := id), marked_endAbandoned]
    rfl
  · exact marked_linkLost s

theorem frameTimeoutDue_withHeld (s : State) : frameTimeoutDue (withHeld x cells s) x = frameTimeoutDue s x := by
  rw [frameTimeoutDue, withHeld, marked_side, marked, onSide_timeBase]
  rfl

theorem withHeld_takeWaitingExpiry (s : State) :
    withHeld x cells (takeWaitingExpiry s x) = takeWaitingExpiry (withHeld x cells s) x := by
  unfold takeWaitingExpiry
  rw [frameTimeoutDue_withHeld]
  split
  · exact withHeld_expireFrameTimeout cells s
  · rfl

/-! ## A FRAME START (R4 to R7, R61, R213) -/

theorem renewSize_held (d : SideState) (w h : Nat) : markedSide (holding cells id) id (d.renewSize w h) =
    (markedSide (holding cells id) id d).renewSize w h := by
  have hsize : (markedSide (holding cells id) id d).store.frameSize = d.store.frameSize := rfl
  unfold SideState.renewSize
  rw [hsize]
  cases d.store.frameSize with
  | none => rfl
  | some size =>
    dsimp only
    split <;> rfl

theorem takeDevelop_held (d : SideState) :
    markedSide (holding cells id) id d.takeDevelop = (markedSide (holding cells id) id d).takeDevelop := by
  rw [SideState.takeDevelop, renewSize_held, findFailed_marked]
  rfl

theorem swapSize_held (d : SideState) (v : SwapValues) :
    markedSide (holding cells id) id (d.swapSize v) = (markedSide (holding cells id) id d).swapSize v := by
  have hsize : (markedSide (holding cells id) id d).store.frameSize = d.store.frameSize := rfl
  unfold SideState.swapSize
  rw [hsize]
  split <;> rfl

theorem swap_held (d : SideState) :
    markedSide (holding cells id) id d.swap = (markedSide (holding cells id) id d).swap := by
  have hclamp : ∀ (e : SideState) v, markedSide (holding cells id) id (e.clampToBank v) =
      (markedSide (holding cells id) id e).clampToBank v := fun _ _ => rfl
  unfold SideState.swap
  dsimp only
  rw [swapSize_held, hclamp, findFailed_marked]
  rfl

theorem withHeld_swapIfPending (s : State) :
    withHeld x cells (swapIfPending s x) = swapIfPending (withHeld x cells s) x := by
  have hside : (withHeld x cells s).side x = markedSide (holding cells id) id (s.side x) := marked_side
  unfold swapIfPending
  rw [hside]
  show withHeld x cells (if (s.side x).store.commitPending = true then _ else _) =
    if (s.side x).store.commitPending = true then _ else _
  split
  · rw [withHeld, marked_settle, unread_marked.report, marked_onSide (swap_held cells)]
    rfl
  · rfl

theorem withHeld_acceptFrame (s : State) (before : Conditions) (number : Byte) (values : FrameValues) :
    withHeld x cells (acceptFrame s x before number values) =
      acceptFrame (withHeld x cells s) x before number values := by
  have hlink : ∀ u : State, (marked x (holding cells id) id u).timeBase = u.timeBase := fun u => onSide_timeBase _ _ _
  have hegress : ∀ u : State, ∀ src w h colour, marked x (holding cells id) id (beginEgressFrame u x src w h colour) =
      beginEgressFrame (marked x (holding cells id) id u) x src w h colour := fun u src w h colour => by
    rw [beginEgressFrame, marked_kick, marked_onLink, beginEgressFrame, marked_side]
    rfl
  have hin : ∀ u : State, marked x (holding cells id) id (u.onSide x SideState.takeInUse) =
      (marked x (holding cells id) id u).onSide x SideState.takeInUse := fun u => marked_onSide fun _ => rfl
  unfold acceptFrame startEgress
  dsimp only
  rw [withHeld, hegress, hin, marked_guardStep, marked_settle, marked_onLink,
    marked_onSide (g := fun d => d.accept s.timeBase number values) fun _ => rfl]
  rw [withHeld, hlink]

theorem withHeld_judgeStart (s : State) (body : List Byte) :
    withHeld x cells (judgeStart s x body) = judgeStart (withHeld x cells s) x body := by
  have hside : (withHeld x cells s).side x = markedSide (holding cells id) id (s.side x) := marked_side
  have hactive : (markedSide (holding cells id) id (s.side x)).store.active = (s.side x).store.active := rfl
  have hvalues : (markedSide (holding cells id) id (s.side x)).developValues = (s.side x).developValues := rfl
  have htake : withHeld x cells (s.onSide x SideState.takeDevelop) =
      (withHeld x cells s).onSide x SideState.takeDevelop := marked_onSide (takeDevelop_held cells)
  unfold judgeStart
  dsimp only
  rw [hside, hactive, hvalues]
  split
  · exact marked_onSide fun _ => rfl
  · split
    · rw [withHeld_acceptFrame, htake]
      rfl
    · rw [withHeld, marked_settle, marked_onSide (g := SideState.rejectFormat) fun _ => rfl]
      exact congrArg (fun u => settle (u.onSide x SideState.rejectFormat) x (s.side x).cond) htake

/-! ## SIDE RESTART (R27, R196) -/

theorem withHeld_abortOperation (s : State) :
    withHeld x cells (abortOperation s x) = abortOperation (withHeld x cells s) x := by
  have hop : ((withHeld x cells s).side x).store.op = (s.side x).store.op := by rw [withHeld, marked_side]; rfl
  unfold abortOperation
  dsimp only
  rw [hop]
  split
  · exact marked_onSide fun _ => rfl
  · rw [withHeld, marked_onSide (g := Restarting.withoutOperation) fun _ => rfl, marked_onLink]
    rfl

theorem withHeld_abandonFrame (s : State) :
    withHeld x cells (abandonFrame s x) = abandonFrame (withHeld x cells s) x := by
  have hside : (withHeld x cells s).side x = markedSide (holding cells id) id (s.side x) := marked_side
  unfold abandonFrame
  rw [hside]
  show withHeld x cells (if (s.side x).recv.state = .receiving then _ else _) =
    if (s.side x).recv.state = .receiving then _ else _
  split
  · rw [withHeld, marked_endAbandoned]
    exact congrArg (endAbandoned · x) (withHeld_fillLines cells _ _ _ s)
  · rfl

theorem restarted_held (d : SideState) :
    markedSide (holding cells id) id (Invariants.restarted d) =
      Invariants.restarted (markedSide (holding cells id) id d) := by
  rw [Restarting.restarted_eq, Restarting.restarted_eq, ← findFailed_marked]
  rfl

theorem withHeld_restartSide (s : State) :
    withHeld x cells (restartSide s x) = restartSide (withHeld x cells s) x := by
  have hgroups : ∀ u : State, (((marked x (holding cells id) id u).side x).groups) = (u.side x).groups := fun u => by
    rw [marked_side]
    rfl
  rw [Invariants.restartSide_eq, Invariants.restartSide_eq, withHeld, unread_marked.judgeRestoration, evaluate,
    unread_marked.evaluateFrom, ← hgroups, unread_marked.setGuard, marked_onSide (restarted_held cells), evaluate]
  rw [← withHeld_abortOperation, ← withHeld_abandonFrame]
  rfl

theorem withHeld_doSideRestart {z : Side} {q : Request} (s : State) (hn : q.names = some x) :
    withHeld x cells (doSideRestart s z q) = doSideRestart (withHeld x cells s) z q := by
  unfold doSideRestart
  rw [hn]
  dsimp only
  rw [← withHeld_restartSide]
  exact marked_onLink

theorem withHeld_takeWaitingRestart (s : State) (z : Side) :
    withHeld x cells (takeWaitingRestart s x z) = takeWaitingRestart (withHeld x cells s) x z := by
  have hhead : headOf (withHeld x cells s) z .sideRestart = headOf s z .sideRestart := by
    cases x <;> cases z <;> rfl
  have hhandling : handlingCell (withHeld x cells s) x = handlingCell s x := by
    rw [handlingCell, withHeld, marked_side]
    rfl
  unfold takeWaitingRestart
  rw [hhead, hhandling]
  split
  · rfl
  · split
    · rename_i h
      rw [withHeld_doSideRestart cells _ h.1]
      exact congrArg (doSideRestart · z _) marked_onLink
    · rfl

/-- What waits for a handling is taken without regard to the cells held (R21, R27). -/
theorem withHeld_takeWaitingEvents (s : State) :
    withHeld x cells (takeWaitingEvents s x) = takeWaitingEvents (withHeld x cells s) x := by
  rw [takeWaitingEvents, withHeld_takeWaitingRestart, withHeld_takeWaitingRestart, withHeld_takeWaitingExpiry]
  rfl

end

/-! ## RESET and the request queues -/

/-- RESET and the request queues are as they were. -/
structure Unasked (s t : State) : Prop where
  reset : t.resetHeld = s.resetHeld
  requests : ∀ z, (t.link z).requests = (s.link z).requests

section
variable {s t u : State} {x : Side}

theorem Unasked.refl (s : State) : Unasked s s := ⟨rfl, fun _ => rfl⟩

theorem Unasked.trans (h : Unasked s t) (k : Unasked t u) : Unasked s u :=
  ⟨k.reset.trans h.reset, fun z => (k.requests z).trans (h.requests z)⟩

theorem unasked_onSide (s : State) (x : Side) (f : SideState → SideState) : Unasked s (s.onSide x f) :=
  ⟨onSide_resetHeld _ _ _, fun z => by rw [onSide_link]⟩

theorem unasked_onLink (s : State) (x : Side) {f : LinkState → LinkState} (h : ∀ l, (f l).requests = l.requests) :
    Unasked s (s.onLink x f) :=
  ⟨onLink_resetHeld _ _ _, Invariants.onLink_forall (P := fun l m => m.requests = l.requests) (fun _ => rfl) (h _)⟩

theorem Unasked.of_delivery (h : t.besideDelivery x = s.besideDelivery x) : Unasked s t := by
  refine ⟨?_, Delivering.requests_of_delivery h⟩
  have hheld := congrArg State.resetHeld h
  cases x <;> exact hheld

theorem Unasked.of_egress (h : t.besideEgress x = s.besideEgress x) : Unasked s t :=
  .of_delivery (besideDelivery_of_egress h)

theorem Unasked.of_beside (h : t.besideSupervision x = s.besideSupervision x) : Unasked s t := by
  refine ⟨beside_resetHeld h, fun z => ?_⟩
  obtain ⟨a, b, hl⟩ := Invariants.beside_link h z
  rw [hl]

variable (s x)

theorem unasked_settle (before : Conditions) : Unasked s (settle s x before) := .of_beside (settle_beside s x before)

theorem unasked_fillLines (after : Nat → After) (count y : Nat) : Unasked s (fillLines x after count y s) := by
  obtain ⟨k, -, h⟩ := fillLines_beside (x := x) after count y s
  exact (unasked_onSide s x _).trans (.of_delivery h)

variable {x} in
theorem unasked_fillThen {finish : State → State} (hf : ∀ t, Unasked t (finish t)) (after : Nat → After)
    (y stop : Nat) : Unasked s (fillThen s x after y stop finish) := by
  unfold fillThen
  dsimp only
  split
  · exact unasked_fillLines s x after _ y
  · exact (unasked_fillLines s x after _ y).trans (hf _)

theorem unasked_endAbandoned : Unasked s (endAbandoned s x) :=
  (unasked_onSide s x _).trans (.of_egress (endAbandoned_beside s x))

theorem unasked_linkLost : Unasked s (linkLost s x) :=
  ((unasked_onSide s x _).trans (unasked_settle _ x _)).trans (unasked_onSide _ x _)

theorem unasked_expireFrameTimeout : Unasked s (expireFrameTimeout s x) := by
  unfold expireFrameTimeout expireFrom
  split
  · exact unasked_fillThen s (fun t => (unasked_endAbandoned t x).trans (unasked_linkLost _ x)) _ _ _
  · exact unasked_linkLost s x

theorem unasked_takeWaitingExpiry : Unasked s (takeWaitingExpiry s x) := by
  unfold takeWaitingExpiry
  split
  · exact unasked_expireFrameTimeout s x
  · exact .refl s

theorem unasked_endFrame : Unasked s (endFrame s x) :=
  (((unasked_onSide s x _).trans (unasked_settle _ x _)).trans (.of_beside (guardFrameEnd_beside _ x))).trans
    (.of_egress (handFollowEnd_beside _ x))

theorem unasked_markReports : Unasked s (markReports s x) := .of_beside (markReports_beside s x)

theorem unasked_swapIfPending : Unasked s (swapIfPending s x) := by
  unfold swapIfPending
  split
  · exact ((unasked_onSide s x _).trans (unasked_markReports _ x)).trans (unasked_settle _ x _)
  · exact .refl s

theorem unasked_beginEgressFrame (src : Source) (w h : Nat) (colour : Rgb) :
    Unasked s (beginEgressFrame s x src w h colour) :=
  (unasked_onLink s x (f := fun l => { l with number := l.number + 1 }) fun _ => rfl).trans
    (.of_egress (beginEgressFrame_beside s x src w h colour))

theorem unasked_acceptFrame (before : Conditions) (number : Byte) (values : FrameValues) :
    Unasked s (acceptFrame s x before number values) := by
  have hend : ∀ l : LinkState, (l.handEnd .standalone).requests = l.requests := fun _ => rfl
  exact ((((unasked_onSide s x _).trans (unasked_onLink _ x hend)).trans (unasked_settle _ x before)).trans
    ((Unasked.of_beside (guardStep_beside _ x)).trans (unasked_onSide _ x _))).trans
    (unasked_beginEgressFrame _ x _ _ _ _)

theorem unasked_judgeStart (body : List Byte) : Unasked s (judgeStart s x body) := by
  unfold judgeStart
  dsimp only
  split
  · exact unasked_onSide s x _
  · split
    · exact (unasked_onSide s x _).trans (unasked_acceptFrame _ x _ _ _)
    · exact ((unasked_onSide s x _).trans (unasked_onSide _ x _)).trans (unasked_settle _ x _)

theorem unasked_handLast (own : SideState × OutLine) : Unasked s (handLast s x own) :=
  (unasked_onSide s x _).trans (.of_delivery (Reception.handLast_beside s x own))

theorem unasked_handleFrom (c : CameraCell) (y : Nat) : Unasked s (handleFrom s x c y) := by
  refine unasked_fillThen s (fun t => ?_) _ _ _
  unfold finishCell
  split
  · exact unasked_handLast t x _
  · exact unasked_endFrame t x
  · exact ((unasked_endFrame t x).trans (unasked_swapIfPending _ x)).trans (unasked_judgeStart _ x _)
  · exact .refl t

theorem unasked_takeCell (c : CameraCell) : Unasked s (takeCell s x c) := by
  unfold takeCell
  split
  · unfold takeFrameStart
    split
    · split
      · exact unasked_handleFrom s x _ _
      · exact (unasked_swapIfPending s x).trans (unasked_judgeStart _ x _)
    · exact .refl s
  · unfold takeLine
    dsimp only
    split
    · exact .refl s
    · split
      · exact unasked_onSide s x _
      · split
        · split
          · exact unasked_onSide s x _
          · exact unasked_handleFrom s x _ _
        · exact unasked_handLast s x _
  · unfold takeFrameEnd
    split
    · split
      · exact unasked_handleFrom s x _ _
      · exact unasked_onSide s x _
      · exact .refl s
    · exact .refl s
  · exact (unasked_onSide s x _).trans (unasked_settle _ x _)

theorem unasked_arrive (c : CameraCell) : Unasked s (arrive s x c) := by
  unfold arrive
  split
  · exact unasked_onSide s x _
  · exact unasked_takeCell s x c

end
end Sys2Proof.Untouched
end

section
/-! What waits while a line of the side waits, and its taking when the handling completes (R1, R17, R21, R27, R174,
R215). -/

namespace Sys2Proof.Held

open Sys2Proof Sys2Proof.Machine Sys2Proof.Untouched Sys2Proof.Delivering Sys2Proof.BankWords Sys2Proof.FrameEnds

/-! ## Commands in a row -/

theorem runCommands_append {t : State} (m : List Instr) : ∀ (l : List Instr) {s : State},
    runCommands l s = .next t → runCommands (l ++ m) s = runCommands m t
  | [], s, h => by
    cases h
    rfl
  | i :: rest, s, h => by
    rw [runCommands] at h
    rw [List.cons_append, runCommands]
    cases hi : exec i s with
    | next u =>
      rw [hi] at h
      exact runCommands_append m rest h
    | fault f =>
      rw [hi] at h
      cases h
    | refused r =>
      rw [hi] at h
      cases h

section
variable {s t : State} {x : Side}

/-- The command that brings a cell lets it arrive. -/
theorem exec_command (hfree : s.resetHeld = false) (c : CameraCell) :
    exec (c.command x) s = .next (arrive s x c) := by
  obtain ⟨kind, body⟩ := c
  cases kind <;> exact exec_unheld hfree

theorem runCommands_cells : ∀ (cells : List CameraCell) {s : State}, s.resetHeld = false →
    runCommands (cells.map fun c => c.command x) s = .next (arriveAll s x cells)
  | [], _, _ => rfl
  | c :: rest, s, hfree => by
    have hrest := runCommands_cells rest (s := arrive s x c) ((unasked_arrive s x c).reset.trans hfree)
    rw [List.map_cons, runCommands, exec_command hfree]
    exact hrest

/-- The command of a SIDE RESTART of the side takes it, if it can be taken and the handling of a cell is not unfinished
(R27). -/
theorem exec_sideRestart {z : Side} {r : Request} {rest : List Request} (hrequests : (s.link z).requests = r :: rest)
    (hn : r.names = some x) : exec (.sideRestart z) s = .next (takeWaitingRestart s x z) := by
  have hexec : exec (.sideRestart z) s = execSideRestart z s := rfl
  cases hhead : headOf s z .sideRestart with
  | none =>
    have hwaits : restartWaits s z = false := by rw [restartWaits, hhead]
    rw [hexec, execSideRestart, hwaits, if_neg Bool.false_ne_true, taken, takeWaitingRestart, hhead]
  | some q =>
    obtain ⟨⟨-, -, -, hfirst⟩, -⟩ := Invariants.canTake_of_headOf hhead
    rw [hrequests] at hfirst
    cases hfirst
    have hwaits : restartWaits s z = handlingCell s x := by
      rw [restartWaits, hhead]
      dsimp only
      rw [hn]
    rw [hexec, execSideRestart, hwaits, taken, takeWaitingRestart, hhead]
    cases hhandling : handlingCell s x with
    | true => simp
    | false => simp [hn]

/-- A SIDE RESTART of the side at the head of a link's request queue is taken, or waits on (R27). -/
theorem runCommands_restart (s : State) (x z : Side) :
    runCommands (restartAtHead s x z) s = .next (takeWaitingRestart s x z) := by
  cases hrequests : (s.link z).requests with
  | nil =>
    have hnone : restartAtHead s x z = [] := by rw [restartAtHead, hrequests]
    rw [takeWaitingRestart_none hnone, hnone]
    rfl
  | cons r rest =>
    have hhead := restartAtHead_of_head (s := s) (x := x) (z := z) (r := r) (by rw [hrequests]; rfl)
    by_cases hr : r.requestKind = .sideRestart ∧ r.names = some x
    · rw [hhead, if_pos hr, runCommands, exec_sideRestart hrequests hr.2]
      rfl
    · rw [if_neg hr] at hhead
      rw [takeWaitingRestart_none hhead, hhead]
      rfl

theorem doSideRestart_named {z : Side} {r : Request} (h : r.names = some x) :
    doSideRestart s z r = respond (restartSide s x) z .done := by
  rw [doSideRestart, h]

theorem takeWaitingRestart_reset (s : State) (x z : Side) : (takeWaitingRestart s x z).resetHeld = s.resetHeld := by
  have hrestart : ∀ u : State, (restartSide u x).resetHeld = u.resetHeld := fun u => by
    rw [beside_resetHeld (Restarting.restartSide_beside u x), onSide_resetHeld,
      Restarting.abandonFrame_part State.resetHeld (fun _ _ => onLink_resetHeld _ _ _)
        fun _ _ => onSide_resetHeld _ _ _,
      Restarting.abortOperation_part State.resetHeld (fun _ _ _ => onLink_resetHeld _ _ _)
        fun _ _ => onSide_resetHeld _ _ _]
  unfold takeWaitingRestart
  split
  · rfl
  · split
    · rename_i r _ h
      rw [doSideRestart_named h.1, respond, onLink_resetHeld, hrestart, takeRequest, onLink_resetHeld]
    · rfl

theorem takeWaitingRestart_requests_other (s : State) (x : Side) {y z : Side} (hy : y ≠ z) :
    ((takeWaitingRestart s x z).link y).requests = (s.link y).requests := by
  unfold takeWaitingRestart
  split
  · rfl
  · split
    · rename_i r _ h
      rw [doSideRestart_named h.1, respond, onLink_link_other _ _ hy, Restarting.restartSide_requests, takeRequest,
        onLink_link_other _ _ hy]
    · rfl

theorem withHeld_same (s : State) (x : Side) : withHeld x (s.side x).recv.held s = s := onSide_same rfl

/-- The cells held stay held while what waited before them is taken. -/
theorem takeWaitingEvents_held (s : State) (x : Side) :
    ((takeWaitingEvents s x).side x).recv.held = (s.side x).recv.held := by
  have h := withHeld_takeWaitingEvents (x := x) (s.side x).recv.held s
  rw [withHeld_same] at h
  rw [← h, withHeld, marked_side]
  rfl

/-- When a handling has completed, what waited for it is taken in order (R21, R27, R174). -/
theorem runCommands_afterHandling (hfree : t.resetHeld = false) (hw : (t.side x).pipe.waiting = none)
    (hrequests : ∀ z, (t.link z).requests = (s.link z).requests)
    (hheld : (t.side x).recv.held = (s.side x).recv.held) :
    runCommands (afterHandling s x) (withHeld x [] t) = .next (takeHeld (takeWaitingEvents t x) x) := by
  have hreleased : takeHeld (takeWaitingEvents t x) x =
      arriveAll (takeWaitingEvents (withHeld x [] t) x) x (s.side x).recv.held := by
    rw [takeHeld, takeWaitingEvents_held, hheld, ← withHeld_takeWaitingEvents]
    rfl
  have hexpiry : exec (.frameTimeoutExpiry x) (withHeld x [] t) = .next (takeWaitingExpiry (withHeld x [] t) x) := by
    rw [exec_frameTimeoutExpiry ((withHeld_reset _ t).trans hfree) ((withHeld_waiting _ t).trans hw)]
    exact (apply_ite _ _ _ _).symm
  have hqueue : ∀ z, ((takeWaitingExpiry (withHeld x [] t) x).link z).requests = (s.link z).requests := fun z => by
    rw [(unasked_takeWaitingExpiry _ x).requests, withHeld_link, hrequests]
  have hreset : (takeWaitingExpiry (withHeld x [] t) x).resetHeld = false := by
    rw [(unasked_takeWaitingExpiry _ x).reset, withHeld_reset, hfree]
  have ha := runCommands_restart (takeWaitingExpiry (withHeld x [] t) x) x .a
  rw [restartAtHead_congr (hqueue .a)] at ha
  have hb := runCommands_restart (takeWaitingRestart (takeWaitingExpiry (withHeld x [] t) x) x .a) x .b
  rw [restartAtHead_congr ((takeWaitingRestart_requests_other _ x (y := .b) (z := .a) nofun).trans (hqueue .b))] at hb
  rw [hreleased, afterHandling, List.append_assoc, List.append_assoc, List.singleton_append, runCommands, hexpiry]
  dsimp only
  rw [runCommands_append _ _ ha, runCommands_append _ _ hb]
  exact runCommands_cells _ (by rw [takeWaitingRestart_reset, takeWaitingRestart_reset, hreset])

/-! ## What the end of a frame and a FRAME START keep of the receiver -/

/-- What does not read the cells held and the line expected keeps both. -/
theorem kept_of_marked {f : State → State} (h : ∀ cells g u, marked x (holding cells g) id (f u) =
    f (marked x (holding cells g) id u)) (s : State) :
    ((f s).side x).recv.held = (s.side x).recv.held ∧ ((f s).side x).recv.expected = (s.side x).recv.expected := by
  have hs := h (s.side x).recv.held (fun _ => (s.side x).recv.expected) s
  have hsame : marked x (holding (s.side x).recv.held fun _ => (s.side x).recv.expected) id s = s := onSide_same rfl
  rw [hsame] at hs
  rw [← hs, marked_side]
  exact ⟨rfl, rfl⟩

/-- What does not read the cells held keeps them. -/
theorem held_of_withHeld {f : State → State} (h : ∀ cells u, withHeld x cells (f u) = f (withHeld x cells u))
    (s : State) : ((f s).side x).recv.held = (s.side x).recv.held := by
  have hs := h (s.side x).recv.held s
  rw [withHeld_same] at hs
  rw [← hs, withHeld_side]
  rfl

/-- A FRAME START leaves no line waiting that did not wait. -/
theorem judgeStart_waiting (s : State) (x : Side) (body : List Byte) :
    ((judgeStart s x body).side x).pipe.waiting = (s.side x).pipe.waiting := by
  have htake := (Receiving.takeDevelop_still (s.side x)).waiting
  unfold judgeStart
  dsimp only
  split
  · rw [onSide_side_same]
    rfl
  · split
    · refine ((Receiving.Calm.of_beside (settle_beside _ x _)).trans
        (Receiving.startEgress_calm _ x _ _ _ _)).still.waiting.trans ?_
      rw [onLink_side, onSide_side_same, onSide_side_same]
      exact htake
    · refine (Receiving.Calm.of_beside (settle_beside _ x _)).still.waiting.trans ?_
      rw [onSide_side_same, onSide_side_same]
      exact htake

/-! ## The delivery that completes a handling -/

/-- When a delivery completes the handling of a cell or of an expiry, what waited for it is taken in order. -/
theorem exec_delivery_completes {line : OutLine} {after : After} (hfree : s.resetHeld = false)
    (hw : (s.side x).pipe.waiting = some ⟨line, after⟩) (hroom : (s.link x).buffer.length < 4)
    (hres : resume (deliverWaiting s x line) x after = t)
    (hfinish : finishHandling t x after = takeHeld (takeWaitingEvents t x) x)
    (hu : Unasked (deliverWaiting s x line) t) (hnone : (t.side x).pipe.waiting = none)
    (hheld : (t.side x).recv.held = (s.side x).recv.held) :
    exec (.deferredLineDelivery x) s = runCommands (afterHandling s x) (withHeld x [] t) := by
  have hs : Unasked s t := (Unasked.of_delivery (deliverWaiting_beside s x line)).trans hu
  rw [exec_delivery hfree hw hroom, deliverAndGoOn_done hres hnone, hfinish,
    runCommands_afterHandling (hs.reset.trans hfree) hnone hs.requests hheld]

end

section
variable {s : State} {x : Side}

/-- An expiry that finds every line of its frame handed on ends the frame and loses the link (R21, R215). -/
theorem expireFrameTimeout_complete (hr : (s.side x).recv.state = .receiving) (hw : (s.side x).pipe.waiting = none)
    (hy : (s.side x).frameHeight ≤ (s.side x).recv.expected) :
    expireFrameTimeout s x = linkLost (endAbandoned s x) x :=
  (if_pos hr).trans (fillThen_none (finish := fun s1 => linkLost (endAbandoned s1 x) x) hw hy)

/-- A FRAME END that finds every line of its frame handed on runs the frame-end processing (R17). -/
theorem takeFrameEnd_complete {body : List Byte} (hgood : cellGood 0x03 3 body = true)
    (hr : (s.side x).recv.state = .receiving) (hw : (s.side x).pipe.waiting = none)
    (hy : (s.side x).frameHeight ≤ (s.side x).recv.expected) : takeFrameEnd s x body = endFrame s x :=
  (takeFrameEnd_receiving hgood hr).trans (fillThen_none hw hy)

theorem marked_lost (cells : List CameraCell) (g : Nat → Nat) (k : Option Time → Option Time) (s : State) :
    marked x (holding cells g) id (linkLost (endAbandoned s x) x) =
      linkLost (endAbandoned (marked x (holding cells g) k s) x) x := by
  rw [marked_linkLost (k := k), marked_endAbandoned]

/-- The line expected put back: only the cells held have changed. -/
theorem marked_expect {cells : List CameraCell} {g : Nat → Nat} {n : Nat} (h : (s.side x).recv.expected = n) :
    ((marked x (holding cells g) id s).onSide x fun d => { d with recv := { d.recv with expected := n } }) =
      withHeld x cells s := by
  subst h
  rw [marked, onSide_onSide]
  exact Reception.onSide_congr rfl

/-- The side after a delivery, no cell held and every line of its frame handed on. -/
theorem deliverWaiting_expect (s : State) (x : Side) (line : OutLine) (k : Option Time → Option Time) :
    ((withHeld x [] (deliverWaiting s x line)).onSide x fun d =>
        { d with frameTimer := k d.frameTimer, recv := { d.recv with expected := d.frameHeight } }) =
      marked x (holding [] fun _ => (s.side x).frameHeight) k (deliverWaiting s x line) := by
  have hside := deliverWaiting_side_same s x line
  rw [withHeld, marked, onSide_onSide, marked]
  refine Reception.onSide_congr ?_
  rw [hside]
  rfl

end

/-- Settles O48, by what the last line leaves to be done: what waits is taken as if the cells held came only then. -/
theorem heldUntilHandled : Obligations.HeldUntilHandled := by
  refine ⟨fun x c s hfree hw => ?_, ?_⟩
  · rw [exec_command hfree, arrive, waits, if_pos hw]
    rfl
  intro x s line after hfree hw hroom u
  have hside := deliverWaiting_side_same s x line
  have hnone : ((deliverWaiting s x line).side x).pipe.waiting = none := by rw [hside]; rfl
  have hrecv : ((deliverWaiting s x line).side x).recv = (s.side x).recv := by rw [hside]; rfl
  have hheight : ((deliverWaiting s x line).side x).frameHeight = (s.side x).frameHeight := by rw [hside]; rfl
  have hu : u = withHeld x [] (deliverWaiting s x line) := rfl
  have hreset : (deliverWaiting s x line).resetHeld = false :=
    (Unasked.of_delivery (deliverWaiting_beside s x line)).reset.trans hfree
  have hexpect := deliverWaiting_expect s x line
  rw [← hu] at hexpect
  refine ⟨?_, ?_, ?_, ?_⟩
  · rintro rfl
    rw [hu]
    exact exec_delivery_completes hfree hw hroom rfl rfl (.refl _) hnone (congrArg Receiver.held hrecv)
  · rintro r rfl hr
    have hzero : resume (deliverWaiting s x line) x (.abandoned r) = deliverWaiting s x line := by
      rw [resume_abandoned, Nat.sub_eq_zero_of_le hr]
      rfl
    rw [exec_delivery hfree hw hroom, deliverAndGoOn_done hzero hnone, hu,
      runCommands_cells _ ((withHeld_reset _ _).trans hreset), ← hrecv]
    rfl
  · rintro y start rfl hr hy due hdue
    have hmarked : due = marked x (holding [] fun _ => (s.side x).frameHeight) (fun _ => some start)
        (deliverWaiting s x line) := hexpect fun _ => some start
    have hdueSide : due.side x = markedSide (holding [] fun _ => (s.side x).frameHeight) (fun _ => some start)
        ((deliverWaiting s x line).side x) := by rw [hmarked, marked_side]
    have hexpired : exec (.frameTimeoutExpiry x) due = .next (linkLost (endAbandoned due x) x) := by
      rw [exec_frameTimeoutExpiry, if_pos hdue, expireFrameTimeout_complete]
      · rw [hdueSide]
        exact (congrArg Receiver.state hrecv).trans hr
      · rw [hdueSide]
        exact hnone
      · rw [hdueSide]
        exact hheight.le
      · rw [hmarked]
        exact (onSide_resetHeld _ _ _).trans hreset
      · rw [hdueSide]
        exact hnone
    have hkept := kept_of_marked (x := x) (f := fun v => linkLost (endAbandoned v x) x)
      (fun cells g v => marked_lost cells g id v) (deliverWaiting s x line)
    refine ⟨_, hexpired, ?_⟩
    rw [hmarked, ← marked_lost, marked_expect (hkept.2.trans (congrArg Receiver.expected hrecv))]
    refine exec_delivery_completes hfree hw hroom ?_ rfl
      ((unasked_endAbandoned _ x).trans (unasked_linkLost _ x)) ?_ (hkept.1.trans (congrArg Receiver.held hrecv))
    · exact fillThen_none (finish := fun v => linkLost (endAbandoned v x) x) hnone (hheight.le.trans hy)
    · rw [(Receiving.linkLost_recv _ x).2.2, (Receiving.endAbandoned_recv _ x).2.2, hnone]
  · intro y body hgood hr hy
    have hended : exec (.cameraFrameEnd x body) (u.onSide x fun d =>
        { d with recv := { d.recv with expected := d.frameHeight } }) =
        .next (marked x (holding [] fun _ => (s.side x).frameHeight) id (endFrame (deliverWaiting s x line) x)) := by
      have hsame : (u.onSide x fun d => { d with recv := { d.recv with expected := d.frameHeight } }) =
        marked x (holding [] fun _ => (s.side x).frameHeight) id (deliverWaiting s x line) := hexpect id
      rw [hsame, exec_cameraFrameEnd, takeFrameEnd_complete hgood, marked_endFrame]
      · rw [marked_side]
        exact (congrArg Receiver.state hrecv).trans hr
      · rw [marked_side]
        exact hnone
      · rw [marked_side]
        exact hheight.le
      · exact (onSide_resetHeld _ _ _).trans hreset
      · rw [marked_side]
        exact hnone
    have hkept := kept_of_marked (x := x) (f := fun v => endFrame v x)
      (fun cells g v => marked_endFrame cells g v) (deliverWaiting s x line)
    refine ⟨_, hended, ?_⟩
    dsimp only
    rw [marked_expect (hkept.2.trans (congrArg Receiver.expected hrecv))]
    have hwaiting := ((Receiving.endFrame_recv (deliverWaiting s x line) x).2.2).trans hnone
    refine ⟨?_, ?_⟩
    · rintro rfl
      refine exec_delivery_completes hfree hw hroom ?_ rfl (unasked_endFrame _ x) hwaiting
        (hkept.1.trans (congrArg Receiver.held hrecv))
      exact fillThen_none (finish := fun v => endFrame v x) hnone (hheight.le.trans hy)
    · rintro start rfl hstart
      have hstarted : exec (.cameraFrameStart x start) (withHeld x [] (endFrame (deliverWaiting s x line) x)) =
          .next (withHeld x [] (judgeStart (swapIfPending (endFrame (deliverWaiting s x line) x) x) x start)) := by
        rw [withHeld_judgeStart, withHeld_swapIfPending]
        refine FrameStarts.exec_cameraFrameStart_outside ?_ ((withHeld_waiting _ _).trans hwaiting) ?_ hstart
        · rw [withHeld_reset, (unasked_endFrame _ x).reset, hreset]
        · rw [withHeld_side]
          exact Receiving.not_receiving_of_waitStart (Receiving.endFrame_recv _ x).2.1
      rw [runCommands, hstarted]
      refine exec_delivery_completes hfree hw hroom ?_ rfl
        (((unasked_endFrame _ x).trans (unasked_swapIfPending _ x)).trans (unasked_judgeStart _ x start)) ?_ ?_
      · exact fillThen_none (finish := fun v => judgeStart (swapIfPending (endFrame v x) x) x start) hnone
          (hheight.le.trans hy)
      · rw [judgeStart_waiting, (Receiving.swapIfPending_calm _ x).still.waiting, hwaiting]
      · rw [held_of_withHeld (f := fun v => judgeStart v x start) (fun cells v => withHeld_judgeStart cells v start),
          held_of_withHeld (f := fun v => swapIfPending v x) (fun cells v => withHeld_swapIfPending cells v), hkept.1,
          hrecv]

end Sys2Proof.Held
end
